-- ==== Sys2Proof/Word.lean ====
section
/-! DEFINITION. The bit-string types of the block: the ports and the control/status register (R22, R29, R60).
Bits are numbered from 0 at the least significant end, as in R7. -/

namespace Sys2Proof

/-- The low half of a port: the operands and the result of a 128-bit form (R61). -/
abbrev Vec128 := BitVec 128

/-- A whole operand or result port, A, B or R (R22). -/
abbrev Vec256 := BitVec 256

/-- The command port CMD (R60). -/
abbrev CommandWord := BitVec 32

/-- The value of the control/status register (R29). -/
abbrev CsrWord := BitVec 32

/-- The IMM8 field of a command: a predicate code or a rounding selector (R66). -/
abbrev Imm8 := BitVec 8

/-- The output port ERR (R280). -/
abbrev ErrCode := BitVec 2

end Sys2Proof
end

