-- ==== Sys2Proof/Syntax.lean ====
section
/-! DEFINITION. The commands of the block: the 28 operations of the map R63, and one constructor of `Instr` for each of
the 52 rows of spec/opcode_table.json (an operation with a 128-bit and a 256-bit form has two rows). -/

namespace Sys2Proof

/-- The operations of the map R63, each by its mnemonic. -/
inductive Op where
  | paddsb
  | paddsw
  | paddusb
  | paddusw
  | psubsb
  | psubsw
  | psubusb
  | psubusw
  | packsswb
  | packuswb
  | packssdw
  | packusdw
  | punpcklbw
  | punpckhbw
  | punpcklwd
  | punpckhwd
  | punpckldq
  | punpckhdq
  | punpcklqdq
  | punpckhqdq
  | cmpps
  | cmppd
  | cmpss
  | cmpsd
  | vcvtps2ph
  | vcvtph2ps
  | getcsr
  | setcsr
deriving DecidableEq, Repr

/-- The commands, one constructor per row of the opcode table. A constructor ending in 128 is the row with W = 0, one
ending in 256 the row with W = 1; CMPSS, CMPSD, GETCSR and SETCSR have W = 0 only. `p` is a predicate code (R174) and `sel`
a rounding selector (R237), each the whole IMM8 field: a value outside its range is a command too, which answers
InvalidArgument (R280). -/
inductive Instr where
  /-- R103: add packed signed bytes with signed saturation, 128-bit form. -/
  | paddsb128
  /-- R103: add packed signed bytes with signed saturation, 256-bit form. -/
  | paddsb256
  /-- R104: add packed signed words with signed saturation, 128-bit form. -/
  | paddsw128
  /-- R104: add packed signed words with signed saturation, 256-bit form. -/
  | paddsw256
  /-- R105: add packed unsigned bytes with unsigned saturation, 128-bit form. -/
  | paddusb128
  /-- R105: add packed unsigned bytes with unsigned saturation, 256-bit form. -/
  | paddusb256
  /-- R106: add packed unsigned words with unsigned saturation, 128-bit form. -/
  | paddusw128
  /-- R106: add packed unsigned words with unsigned saturation, 256-bit form. -/
  | paddusw256
  /-- R107: subtract packed signed bytes with signed saturation, 128-bit form. -/
  | psubsb128
  /-- R107: subtract packed signed bytes with signed saturation, 256-bit form. -/
  | psubsb256
  /-- R108: subtract packed signed words with signed saturation, 128-bit form. -/
  | psubsw128
  /-- R108: subtract packed signed words with signed saturation, 256-bit form. -/
  | psubsw256
  /-- R109: subtract packed unsigned bytes with unsigned saturation, 128-bit form. -/
  | psubusb128
  /-- R109: subtract packed unsigned bytes with unsigned saturation, 256-bit form. -/
  | psubusb256
  /-- R110: subtract packed unsigned words with unsigned saturation, 128-bit form. -/
  | psubusw128
  /-- R110: subtract packed unsigned words with unsigned saturation, 256-bit form. -/
  | psubusw256
  /-- R131: pack signed words to signed bytes, 128-bit form. -/
  | packsswb128
  /-- R131: pack signed words to signed bytes, 256-bit form. -/
  | packsswb256
  /-- R132: pack signed words to unsigned bytes, 128-bit form. -/
  | packuswb128
  /-- R132: pack signed words to unsigned bytes, 256-bit form. -/
  | packuswb256
  /-- R133: pack signed doublewords to signed words, 128-bit form. -/
  | packssdw128
  /-- R133: pack signed doublewords to signed words, 256-bit form. -/
  | packssdw256
  /-- R134: pack signed doublewords to unsigned words, 128-bit form. -/
  | packusdw128
  /-- R134: pack signed doublewords to unsigned words, 256-bit form. -/
  | packusdw256
  /-- R141: interleave the low bytes, 128-bit form. -/
  | punpcklbw128
  /-- R141: interleave the low bytes, 256-bit form. -/
  | punpcklbw256
  /-- R142: interleave the high bytes, 128-bit form. -/
  | punpckhbw128
  /-- R142: interleave the high bytes, 256-bit form. -/
  | punpckhbw256
  /-- R143: interleave the low words, 128-bit form. -/
  | punpcklwd128
  /-- R143: interleave the low words, 256-bit form. -/
  | punpcklwd256
  /-- R144: interleave the high words, 128-bit form. -/
  | punpckhwd128
  /-- R144: interleave the high words, 256-bit form. -/
  | punpckhwd256
  /-- R145: interleave the low doublewords, 128-bit form. -/
  | punpckldq128
  /-- R145: interleave the low doublewords, 256-bit form. -/
  | punpckldq256
  /-- R146: interleave the high doublewords, 128-bit form. -/
  | punpckhdq128
  /-- R146: interleave the high doublewords, 256-bit form. -/
  | punpckhdq256
  /-- R147: interleave the low quadwords, 128-bit form. -/
  | punpcklqdq128
  /-- R147: interleave the low quadwords, 256-bit form. -/
  | punpcklqdq256
  /-- R148: interleave the high quadwords, 128-bit form. -/
  | punpckhqdq128
  /-- R148: interleave the high quadwords, 256-bit form. -/
  | punpckhqdq256
  /-- R179: compare packed float32 lanes under a predicate code, 128-bit form. -/
  | cmpps128 (p : Imm8)
  /-- R179: compare packed float32 lanes under a predicate code, 256-bit form. -/
  | cmpps256 (p : Imm8)
  /-- R180: compare packed float64 lanes under a predicate code, 128-bit form. -/
  | cmppd128 (p : Imm8)
  /-- R180: compare packed float64 lanes under a predicate code, 256-bit form. -/
  | cmppd256 (p : Imm8)
  /-- R181: compare the low float32 lane, pass the rest of A through. -/
  | cmpss (p : Imm8)
  /-- R182: compare the low float64 lane, pass the rest of A through. -/
  | cmpsd (p : Imm8)
  /-- R240: convert packed float32 lanes to float16 under a rounding selector, 128-bit form. -/
  | vcvtps2ph128 (sel : Imm8)
  /-- R240: convert packed float32 lanes to float16 under a rounding selector, 256-bit form. -/
  | vcvtps2ph256 (sel : Imm8)
  /-- R213: convert packed float16 lanes to float32, 128-bit form. -/
  | vcvtph2ps128
  /-- R213: convert packed float16 lanes to float32, 256-bit form. -/
  | vcvtph2ps256
  /-- R270: read the control/status register. -/
  | getcsr
  /-- R271: write the control/status register. -/
  | setcsr
deriving DecidableEq, Repr

end Sys2Proof
end

