-- ==== Sys2Proof/WellFormed.lean ====
section
/-! DEFINITION. The checks on an instruction as syntax. Types already hold every field to its width (R60), so what is left
to check is the immediate: R66 gives a predicate code the range 0x00 to 0x1F, R237 a rounding selector bits 7:4 = 0.
An instruction that fails the check is still a command with an encoding (R280 calls it a well-formed command with an
argument outside its legal range): the block answers InvalidArgument. What makes a command WORD reserved (R64) is
`reservedWord` of Decode.lean. -/

namespace Sys2Proof

/-- A predicate code within the 32 codes of R174. -/
def predicateInRange (p : Imm8) : Bool := p.toNat ≤ 0x1F

/-- A rounding selector with bits 7:4 zero (R237). -/
def selectorInRange (sel : Imm8) : Bool := sel.toNat ≤ 0x0F

/-- The instruction's immediate lies in the range the spec gives it. -/
def Instr.wellFormed : Instr → Bool
  | .paddsb128 => true
  | .paddsb256 => true
  | .paddsw128 => true
  | .paddsw256 => true
  | .paddusb128 => true
  | .paddusb256 => true
  | .paddusw128 => true
  | .paddusw256 => true
  | .psubsb128 => true
  | .psubsb256 => true
  | .psubsw128 => true
  | .psubsw256 => true
  | .psubusb128 => true
  | .psubusb256 => true
  | .psubusw128 => true
  | .psubusw256 => true
  | .packsswb128 => true
  | .packsswb256 => true
  | .packuswb128 => true
  | .packuswb256 => true
  | .packssdw128 => true
  | .packssdw256 => true
  | .packusdw128 => true
  | .packusdw256 => true
  | .punpcklbw128 => true
  | .punpcklbw256 => true
  | .punpckhbw128 => true
  | .punpckhbw256 => true
  | .punpcklwd128 => true
  | .punpcklwd256 => true
  | .punpckhwd128 => true
  | .punpckhwd256 => true
  | .punpckldq128 => true
  | .punpckldq256 => true
  | .punpckhdq128 => true
  | .punpckhdq256 => true
  | .punpcklqdq128 => true
  | .punpcklqdq256 => true
  | .punpckhqdq128 => true
  | .punpckhqdq256 => true
  | .cmpps128 p => predicateInRange p
  | .cmpps256 p => predicateInRange p
  | .cmppd128 p => predicateInRange p
  | .cmppd256 p => predicateInRange p
  | .cmpss p => predicateInRange p
  | .cmpsd p => predicateInRange p
  | .vcvtps2ph128 sel => selectorInRange sel
  | .vcvtps2ph256 sel => selectorInRange sel
  | .vcvtph2ps128 => true
  | .vcvtph2ps256 => true
  | .getcsr => true
  | .setcsr => true

end Sys2Proof
end

