-- ==== Sys2Proof/Decode.lean ====
section
/-! DEFINITION. The command word: its fields (R60), the operation codes (R63), the decoder, which is total on 32-bit words and
rejects a reserved word by a name, R64's own list of reserved words, and the encoder (R71). A command is exactly one 32-bit
word presented on CMD (R48, R68): there are no bytes to order and no length to determine. -/

namespace Sys2Proof

/-! ### The fields of a command word (R60) -/

/-- OP, bits 7:0. -/
def opField (w : CommandWord) : BitVec 8 := w.extractLsb' 0 8

/-- IMM8, bits 15:8. -/
def immField (w : CommandWord) : Imm8 := w.extractLsb' 8 8

/-- W, bit 16: true selects the 256-bit form. -/
def widthField (w : CommandWord) : Bool := w.getLsbD 16

/-- RSV, bits 31:17. -/
def rsvField (w : CommandWord) : BitVec 15 := w.extractLsb' 17 15

/-- R71: `CMD = (W << 16) | (IMM8 << 8) | OP`, with RSV = 0. -/
def assembleWord (w256 : Bool) (imm : Imm8) (op : BitVec 8) : CommandWord :=
  ((BitVec.ofBool w256).setWidth 32 <<< 16) ||| (imm.setWidth 32 <<< 8) ||| op.setWidth 32

/-! ### The operation map (R63) -/

/-- The OP column of R63. -/
def Op.code : Op → BitVec 8
  | .paddsb => 0x10
  | .paddsw => 0x11
  | .paddusb => 0x12
  | .paddusw => 0x13
  | .psubsb => 0x14
  | .psubsw => 0x15
  | .psubusb => 0x16
  | .psubusw => 0x17
  | .packsswb => 0x20
  | .packuswb => 0x21
  | .packssdw => 0x22
  | .packusdw => 0x23
  | .punpcklbw => 0x28
  | .punpckhbw => 0x29
  | .punpcklwd => 0x2A
  | .punpckhwd => 0x2B
  | .punpckldq => 0x2C
  | .punpckhdq => 0x2D
  | .punpcklqdq => 0x2E
  | .punpckhqdq => 0x2F
  | .cmpps => 0x30
  | .cmppd => 0x31
  | .cmpss => 0x32
  | .cmpsd => 0x33
  | .vcvtps2ph => 0x40
  | .vcvtph2ps => 0x41
  | .getcsr => 0x50
  | .setcsr => 0x51

/-- Every row of R63. -/
def Op.all : List Op :=
  [.paddsb, .paddsw, .paddusb, .paddusw,
   .psubsb, .psubsw, .psubusb, .psubusw,
   .packsswb, .packuswb, .packssdw, .packusdw,
   .punpcklbw, .punpckhbw, .punpcklwd, .punpckhwd,
   .punpckldq, .punpckhdq, .punpcklqdq, .punpckhqdq,
   .cmpps, .cmppd, .cmpss, .cmpsd,
   .vcvtps2ph, .vcvtph2ps, .getcsr, .setcsr]

/-- The operation of an OP value, none when R63 does not list it. -/
def Op.ofCode (c : BitVec 8) : Option Op := Op.all.find? fun o => o.code == c

/-- What an operation's IMM8 is (the IMM8 column of R63). -/
inductive ImmUse where
  | mustBeZero
  | predicate
  | rounding
deriving DecidableEq, Repr

/-- The IMM8 column of R63. -/
def Op.immUse : Op → ImmUse
  | .paddsb => .mustBeZero
  | .paddsw => .mustBeZero
  | .paddusb => .mustBeZero
  | .paddusw => .mustBeZero
  | .psubsb => .mustBeZero
  | .psubsw => .mustBeZero
  | .psubusb => .mustBeZero
  | .psubusw => .mustBeZero
  | .packsswb => .mustBeZero
  | .packuswb => .mustBeZero
  | .packssdw => .mustBeZero
  | .packusdw => .mustBeZero
  | .punpcklbw => .mustBeZero
  | .punpckhbw => .mustBeZero
  | .punpcklwd => .mustBeZero
  | .punpckhwd => .mustBeZero
  | .punpckldq => .mustBeZero
  | .punpckhdq => .mustBeZero
  | .punpcklqdq => .mustBeZero
  | .punpckhqdq => .mustBeZero
  | .cmpps => .predicate
  | .cmppd => .predicate
  | .cmpss => .predicate
  | .cmpsd => .predicate
  | .vcvtps2ph => .rounding
  | .vcvtph2ps => .mustBeZero
  | .getcsr => .mustBeZero
  | .setcsr => .mustBeZero

/-- The command of an operation at a width (the W column of R63: none for the 256-bit form of a scalar or CSR command). -/
def Op.instr (o : Op) (w256 : Bool) (imm : Imm8) : Option Instr :=
  match o, w256 with
  | .paddsb, false => some .paddsb128
  | .paddsb, true => some .paddsb256
  | .paddsw, false => some .paddsw128
  | .paddsw, true => some .paddsw256
  | .paddusb, false => some .paddusb128
  | .paddusb, true => some .paddusb256
  | .paddusw, false => some .paddusw128
  | .paddusw, true => some .paddusw256
  | .psubsb, false => some .psubsb128
  | .psubsb, true => some .psubsb256
  | .psubsw, false => some .psubsw128
  | .psubsw, true => some .psubsw256
  | .psubusb, false => some .psubusb128
  | .psubusb, true => some .psubusb256
  | .psubusw, false => some .psubusw128
  | .psubusw, true => some .psubusw256
  | .packsswb, false => some .packsswb128
  | .packsswb, true => some .packsswb256
  | .packuswb, false => some .packuswb128
  | .packuswb, true => some .packuswb256
  | .packssdw, false => some .packssdw128
  | .packssdw, true => some .packssdw256
  | .packusdw, false => some .packusdw128
  | .packusdw, true => some .packusdw256
  | .punpcklbw, false => some .punpcklbw128
  | .punpcklbw, true => some .punpcklbw256
  | .punpckhbw, false => some .punpckhbw128
  | .punpckhbw, true => some .punpckhbw256
  | .punpcklwd, false => some .punpcklwd128
  | .punpcklwd, true => some .punpcklwd256
  | .punpckhwd, false => some .punpckhwd128
  | .punpckhwd, true => some .punpckhwd256
  | .punpckldq, false => some .punpckldq128
  | .punpckldq, true => some .punpckldq256
  | .punpckhdq, false => some .punpckhdq128
  | .punpckhdq, true => some .punpckhdq256
  | .punpcklqdq, false => some .punpcklqdq128
  | .punpcklqdq, true => some .punpcklqdq256
  | .punpckhqdq, false => some .punpckhqdq128
  | .punpckhqdq, true => some .punpckhqdq256
  | .cmpps, false => some (.cmpps128 imm)
  | .cmpps, true => some (.cmpps256 imm)
  | .cmppd, false => some (.cmppd128 imm)
  | .cmppd, true => some (.cmppd256 imm)
  | .cmpss, false => some (.cmpss imm)
  | .cmpss, true => none
  | .cmpsd, false => some (.cmpsd imm)
  | .cmpsd, true => none
  | .vcvtps2ph, false => some (.vcvtps2ph128 imm)
  | .vcvtps2ph, true => some (.vcvtps2ph256 imm)
  | .vcvtph2ps, false => some .vcvtph2ps128
  | .vcvtph2ps, true => some .vcvtph2ps256
  | .getcsr, false => some .getcsr
  | .getcsr, true => none
  | .setcsr, false => some .setcsr
  | .setcsr, true => none

/-! ### Decoding (R60 to R68) -/

/-- Why a command word is reserved, one name per condition of R64. R282 gives all four one error code, so which of several
is named first cannot be observed (log 14). -/
inductive Reserved where
  /-- RSV ≠ 0. -/
  | rsvNonzero
  /-- OP is not in the map R63. -/
  | opUnassigned
  /-- IMM8 ≠ 0 for an operation whose IMM8 must be 0. -/
  | immNonzero
  /-- W = 1 for CMPSS, CMPSD, GETCSR or SETCSR. -/
  | widthIllegal
deriving DecidableEq, Repr

/-- The decoder: every word is a row of R63 or reserved (R65). -/
def decode (w : CommandWord) : Except Reserved Instr :=
  if rsvField w ≠ 0 then .error .rsvNonzero
  else
    match Op.ofCode (opField w) with
    | none => .error .opUnassigned
    | some o =>
      if o.immUse = .mustBeZero ∧ immField w ≠ 0 then .error .immNonzero
      else
        match o.instr (widthField w) (immField w) with
        | none => .error .widthIllegal
        | some i => .ok i

/-- R64 as it is written, from the numbers of R63's table and from nothing else of this file but the fields. -/
def reservedWord (w : CommandWord) : Bool :=
  rsvField w != 0
  || !(([0x10, 0x11, 0x12, 0x13, 0x14, 0x15, 0x16, 0x17,
         0x20, 0x21, 0x22, 0x23, 0x28, 0x29, 0x2A, 0x2B, 0x2C, 0x2D, 0x2E, 0x2F,
         0x30, 0x31, 0x32, 0x33, 0x40, 0x41, 0x50, 0x51] : List (BitVec 8)).contains (opField w))
  || (widthField w && ([0x32, 0x33, 0x50, 0x51] : List (BitVec 8)).contains (opField w))
  || (immField w != 0 && !(([0x30, 0x31, 0x32, 0x33, 0x40] : List (BitVec 8)).contains (opField w)))

/-! ### Encoding (R71) -/

/-- The operation of a command. -/
def Instr.op : Instr → Op
  | .paddsb128 => .paddsb
  | .paddsb256 => .paddsb
  | .paddsw128 => .paddsw
  | .paddsw256 => .paddsw
  | .paddusb128 => .paddusb
  | .paddusb256 => .paddusb
  | .paddusw128 => .paddusw
  | .paddusw256 => .paddusw
  | .psubsb128 => .psubsb
  | .psubsb256 => .psubsb
  | .psubsw128 => .psubsw
  | .psubsw256 => .psubsw
  | .psubusb128 => .psubusb
  | .psubusb256 => .psubusb
  | .psubusw128 => .psubusw
  | .psubusw256 => .psubusw
  | .packsswb128 => .packsswb
  | .packsswb256 => .packsswb
  | .packuswb128 => .packuswb
  | .packuswb256 => .packuswb
  | .packssdw128 => .packssdw
  | .packssdw256 => .packssdw
  | .packusdw128 => .packusdw
  | .packusdw256 => .packusdw
  | .punpcklbw128 => .punpcklbw
  | .punpcklbw256 => .punpcklbw
  | .punpckhbw128 => .punpckhbw
  | .punpckhbw256 => .punpckhbw
  | .punpcklwd128 => .punpcklwd
  | .punpcklwd256 => .punpcklwd
  | .punpckhwd128 => .punpckhwd
  | .punpckhwd256 => .punpckhwd
  | .punpckldq128 => .punpckldq
  | .punpckldq256 => .punpckldq
  | .punpckhdq128 => .punpckhdq
  | .punpckhdq256 => .punpckhdq
  | .punpcklqdq128 => .punpcklqdq
  | .punpcklqdq256 => .punpcklqdq
  | .punpckhqdq128 => .punpckhqdq
  | .punpckhqdq256 => .punpckhqdq
  | .cmpps128 _ => .cmpps
  | .cmpps256 _ => .cmpps
  | .cmppd128 _ => .cmppd
  | .cmppd256 _ => .cmppd
  | .cmpss _ => .cmpss
  | .cmpsd _ => .cmpsd
  | .vcvtps2ph128 _ => .vcvtps2ph
  | .vcvtps2ph256 _ => .vcvtps2ph
  | .vcvtph2ps128 => .vcvtph2ps
  | .vcvtph2ps256 => .vcvtph2ps
  | .getcsr => .getcsr
  | .setcsr => .setcsr

/-- The W bit of a command. -/
def Instr.w256 : Instr → Bool
  | .paddsb128 => false
  | .paddsb256 => true
  | .paddsw128 => false
  | .paddsw256 => true
  | .paddusb128 => false
  | .paddusb256 => true
  | .paddusw128 => false
  | .paddusw256 => true
  | .psubsb128 => false
  | .psubsb256 => true
  | .psubsw128 => false
  | .psubsw256 => true
  | .psubusb128 => false
  | .psubusb256 => true
  | .psubusw128 => false
  | .psubusw256 => true
  | .packsswb128 => false
  | .packsswb256 => true
  | .packuswb128 => false
  | .packuswb256 => true
  | .packssdw128 => false
  | .packssdw256 => true
  | .packusdw128 => false
  | .packusdw256 => true
  | .punpcklbw128 => false
  | .punpcklbw256 => true
  | .punpckhbw128 => false
  | .punpckhbw256 => true
  | .punpcklwd128 => false
  | .punpcklwd256 => true
  | .punpckhwd128 => false
  | .punpckhwd256 => true
  | .punpckldq128 => false
  | .punpckldq256 => true
  | .punpckhdq128 => false
  | .punpckhdq256 => true
  | .punpcklqdq128 => false
  | .punpcklqdq256 => true
  | .punpckhqdq128 => false
  | .punpckhqdq256 => true
  | .cmpps128 _ => false
  | .cmpps256 _ => true
  | .cmppd128 _ => false
  | .cmppd256 _ => true
  | .cmpss _ => false
  | .cmpsd _ => false
  | .vcvtps2ph128 _ => false
  | .vcvtps2ph256 _ => true
  | .vcvtph2ps128 => false
  | .vcvtph2ps256 => true
  | .getcsr => false
  | .setcsr => false

/-- The IMM8 field of a command, zero where it must be (R63). -/
def Instr.imm : Instr → Imm8
  | .paddsb128 => 0
  | .paddsb256 => 0
  | .paddsw128 => 0
  | .paddsw256 => 0
  | .paddusb128 => 0
  | .paddusb256 => 0
  | .paddusw128 => 0
  | .paddusw256 => 0
  | .psubsb128 => 0
  | .psubsb256 => 0
  | .psubsw128 => 0
  | .psubsw256 => 0
  | .psubusb128 => 0
  | .psubusb256 => 0
  | .psubusw128 => 0
  | .psubusw256 => 0
  | .packsswb128 => 0
  | .packsswb256 => 0
  | .packuswb128 => 0
  | .packuswb256 => 0
  | .packssdw128 => 0
  | .packssdw256 => 0
  | .packusdw128 => 0
  | .packusdw256 => 0
  | .punpcklbw128 => 0
  | .punpcklbw256 => 0
  | .punpckhbw128 => 0
  | .punpckhbw256 => 0
  | .punpcklwd128 => 0
  | .punpcklwd256 => 0
  | .punpckhwd128 => 0
  | .punpckhwd256 => 0
  | .punpckldq128 => 0
  | .punpckldq256 => 0
  | .punpckhdq128 => 0
  | .punpckhdq256 => 0
  | .punpcklqdq128 => 0
  | .punpcklqdq256 => 0
  | .punpckhqdq128 => 0
  | .punpckhqdq256 => 0
  | .cmpps128 imm => imm
  | .cmpps256 imm => imm
  | .cmppd128 imm => imm
  | .cmppd256 imm => imm
  | .cmpss imm => imm
  | .cmpsd imm => imm
  | .vcvtps2ph128 imm => imm
  | .vcvtps2ph256 imm => imm
  | .vcvtph2ps128 => 0
  | .vcvtph2ps256 => 0
  | .getcsr => 0
  | .setcsr => 0

/-- The word of a command (R71). -/
def encode (i : Instr) : CommandWord := assembleWord i.w256 i.imm i.op.code

/-- The instruction the decoder reads from an instruction of the opcode table whose low `nbits` bits are `w`, every bit above
them zero. The table's bit 0 is bit 0 of CMD. -/
def decodeTableWord (nbits w : Nat) : Option Instr :=
  match decode (BitVec.ofNat 32 (w % 2 ^ nbits)) with
  | .ok i => some i
  | .error _ => none

end Sys2Proof
end

