-- ==== Sys2Proof/Machine/Float.lean ====
section
/-! DEFINITION. Floating-point lanes (R11): their fields, the classes of R170, the exact value of R12, and the relation of two
lanes (R171). -/

namespace Sys2Proof.Machine

/-- An IEEE-754 binary format (R11): exponent width, fraction width p, bias b. The sign is the bit above the exponent. -/
structure FloatFormat where
  expBits : Nat
  fracBits : Nat
  bias : Nat
deriving DecidableEq, Repr

/-- binary16: sign 15, exponent 14:10 with bias 15, fraction 9:0 (R11). -/
def binary16 : FloatFormat := { expBits := 5, fracBits := 10, bias := 15 }

/-- binary32: sign 31, exponent 30:23 with bias 127, fraction 22:0 (R11). -/
def binary32 : FloatFormat := { expBits := 8, fracBits := 23, bias := 127 }

/-- binary64: sign 63, exponent 62:52 with bias 1023, fraction 51:0 (R11). -/
def binary64 : FloatFormat := { expBits := 11, fracBits := 52, bias := 1023 }

/-- The sign bit s. -/
def signOf (fmt : FloatFormat) {n : Nat} (f : BitVec n) : Bool := f.getLsbD (fmt.expBits + fmt.fracBits)

/-- The biased exponent E. -/
def expOf (fmt : FloatFormat) {n : Nat} (f : BitVec n) : Nat := (f.extractLsb' fmt.fracBits fmt.expBits).toNat

/-- The fraction M. -/
def fracOf (fmt : FloatFormat) {n : Nat} (f : BitVec n) : Nat := (f.extractLsb' 0 fmt.fracBits).toNat

/-- The exponent field of all ones. -/
def expOnes (fmt : FloatFormat) : Nat := 2 ^ fmt.expBits - 1

/-- A NaN, quiet or signalling: exponent all ones, fraction not zero (R11, R170). -/
def isNaN (fmt : FloatFormat) {n : Nat} (f : BitVec n) : Bool :=
  expOf fmt f == expOnes fmt && fracOf fmt f != 0

/-- An infinity: exponent all ones, fraction zero (R11). -/
def isInf (fmt : FloatFormat) {n : Nat} (f : BitVec n) : Bool :=
  expOf fmt f == expOnes fmt && fracOf fmt f == 0

/-- Neither an infinity nor a NaN. -/
def isFinite (fmt : FloatFormat) {n : Nat} (f : BitVec n) : Bool := expOf fmt f != expOnes fmt

/-- The value of a finite float (R12), an exact rational. -/
def floatVal (fmt : FloatFormat) {n : Nat} (f : BitVec n) : ℚ :=
  let s : ℚ := if signOf fmt f then -1 else 1
  let m : ℚ := fracOf fmt f
  if expOf fmt f ≠ 0 then
    s * (2 ^ fmt.fracBits + m) * (2 : ℚ) ^ ((expOf fmt f : ℤ) - fmt.bias - fmt.fracBits)
  else
    s * m * (2 : ℚ) ^ ((1 : ℤ) - fmt.bias - fmt.fracBits)

/-- R12's value in units of `2^(1 − b − p)`, the weight of the last bit of a denormal: an integer for every finite float, and
an infinity lies beyond every finite float of its sign. DEDUCED (log 16): one positive unit for the whole format, so it
orders two lanes as R171 orders their values. -/
def scaledVal (fmt : FloatFormat) {n : Nat} (f : BitVec n) : Int :=
  let magnitude : Nat :=
    if expOf fmt f = 0 then fracOf fmt f
    else (2 ^ fmt.fracBits + fracOf fmt f) * 2 ^ (expOf fmt f - 1)
  if signOf fmt f then -(magnitude : Int) else magnitude

/-- The four relations of R171. -/
inductive Relation where
  | lt
  | eq
  | gt
  | un
deriving DecidableEq, Repr

/-- `rel(a, b)` (R171): unordered when either is a NaN, otherwise by exact value. Denormals are not flushed (R183). -/
def rel (fmt : FloatFormat) {n : Nat} (a b : BitVec n) : Relation :=
  if isNaN fmt a || isNaN fmt b then .un
  else if scaledVal fmt a < scaledVal fmt b then .lt
  else if scaledVal fmt a = scaledVal fmt b then .eq
  else .gt

/-- `bitlen(n)` for n > 0 (R10). -/
def bitlen (n : Nat) : Nat := Nat.log2 n + 1

end Sys2Proof.Machine
end

