-- ==== Sys2Proof/Machine/Operands.lean ====
section
/-! DEFINITION. The operand forms: lanes of a vector (R23, R24, R41), building a vector from lanes, the 128-bit and 256-bit
forms of a lane-wise operation (R25, R61, R62), and the requester's conventions `set` and `setr` (R42). -/

namespace Sys2Proof.Machine

/-- Lane i of width w of V: the field `V[w·i + w − 1 : w·i]` (R24). -/
def lane {n : Nat} (w i : Nat) (v : BitVec n) : BitVec w := v.extractLsb' (w * i) w

/-- Byte k of a vector (R41). -/
def byteOf {n : Nat} (k : Nat) (v : BitVec n) : BitVec 8 := lane 8 k v

/-- The vector of n bits whose lanes 0 to count − 1 of width w are f 0 to f (count − 1), zero above them (R24). -/
def ofLanes (n w : Nat) : Nat → (Nat → BitVec w) → BitVec n
  | 0, _ => 0
  | count + 1, f => ofLanes n w count f ||| ((f count).setWidth n <<< (w * count))

/-- The low half of a port, `V[127:0]`. -/
def low128 (v : Vec256) : Vec128 := v.extractLsb' 0 128

/-- The high half of a port, `V[255:128]`. -/
def high128 (v : Vec256) : Vec128 := v.extractLsb' 128 128

/-- The 128-bit form (W = 0): only the low halves are read and `R[255:128] = 0` (R25, R61). -/
def form128 (op128 : Vec128 → Vec128 → Vec128) (a b : Vec256) : Vec256 :=
  (op128 (low128 a) (low128 b)).setWidth 256

/-- The 256-bit form (W = 1) of a lane-wise operation, by the composition rule R62. -/
def form256 (op128 : Vec128 → Vec128 → Vec128) (a b : Vec256) : Vec256 :=
  op128 (high128 a) (high128 b) ++ op128 (low128 a) (low128 b)

/-- A lane by lane operation on 128 bits: `count` lanes of width w. -/
def zipLanes (w count : Nat) (g : BitVec w → BitVec w → BitVec w) (a b : Vec128) : Vec128 :=
  ofLanes 128 w count fun i => g (lane w i a) (lane w i b)

/-- `setr(e_0, e_1, …, e_{n−1})`: the first argument in lane 0 (R42). -/
def setrLanes (n w : Nat) (es : List (BitVec w)) : BitVec n :=
  ofLanes n w es.length fun i => es.getD i 0

/-- `set(e_{n−1}, …, e_1, e_0)`: the last argument in lane 0 (R42). -/
def setLanes (n w : Nat) (es : List (BitVec w)) : BitVec n :=
  ofLanes n w es.length fun i => es.getD (es.length - 1 - i) 0

end Sys2Proof.Machine
end

