-- ==== Sys2Proof/Machine/Flags.lean ====
section
/-! DEFINITION. The fields of CSR (R29) and the rounding control they hold. No operation computes a flag (R28, R30), so this
file holds no flag computation: IE to PE, DAZ, the masks and FTZ are bits that SETCSR writes and GETCSR reads. -/

namespace Sys2Proof.Machine

/-- The rounding modes of the converter (R230): nearest with ties to even, toward −∞, toward +∞, toward zero. -/
inductive RoundingMode where
  | rne
  | rd
  | ru
  | rz
deriving DecidableEq, Repr

/-- The code of a rounding mode, in RC and in IMM8[1:0] alike (R29, R237). -/
def RoundingMode.ofCode (rc : BitVec 2) : RoundingMode :=
  if rc = 0b00#2 then .rne
  else if rc = 0b01#2 then .rd
  else if rc = 0b10#2 then .ru
  else .rz

/-- IE, bit 0. -/
def csrIE (c : CsrWord) : Bool := c.getLsbD 0
/-- DE, bit 1. -/
def csrDE (c : CsrWord) : Bool := c.getLsbD 1
/-- ZE, bit 2. -/
def csrZE (c : CsrWord) : Bool := c.getLsbD 2
/-- OE, bit 3. -/
def csrOE (c : CsrWord) : Bool := c.getLsbD 3
/-- UE, bit 4. -/
def csrUE (c : CsrWord) : Bool := c.getLsbD 4
/-- PE, bit 5. -/
def csrPE (c : CsrWord) : Bool := c.getLsbD 5
/-- DAZ, bit 6. -/
def csrDAZ (c : CsrWord) : Bool := c.getLsbD 6
/-- IM, bit 7. -/
def csrIM (c : CsrWord) : Bool := c.getLsbD 7
/-- DM, bit 8. -/
def csrDM (c : CsrWord) : Bool := c.getLsbD 8
/-- ZM, bit 9. -/
def csrZM (c : CsrWord) : Bool := c.getLsbD 9
/-- OM, bit 10. -/
def csrOM (c : CsrWord) : Bool := c.getLsbD 10
/-- UM, bit 11. -/
def csrUM (c : CsrWord) : Bool := c.getLsbD 11
/-- PM, bit 12. -/
def csrPM (c : CsrWord) : Bool := c.getLsbD 12
/-- RC, bits 14:13. -/
def csrRC (c : CsrWord) : BitVec 2 := c.extractLsb' 13 2
/-- FTZ, bit 15. -/
def csrFTZ (c : CsrWord) : Bool := c.getLsbD 15
/-- The reserved bits 31:16 (R32). -/
def csrReserved (c : CsrWord) : BitVec 16 := c.extractLsb' 16 16

/-- The value a requester writes to change RC alone: `(old & ~0x6000) | (rc << 13)` (R272). -/
def csrWithRC (old : CsrWord) (rc : BitVec 2) : CsrWord :=
  (old &&& ~~~0x6000#32) ||| (rc.setWidth 32 <<< 13)

end Sys2Proof.Machine
end

