-- ==== Sys2Proof/Config.lean ====
section
/-! DEFINITION. The parameters of R6 that are marked "argument", each at the default the spec or the log gives.
The fixed parameters (port width 256, command width 32, CSR width 32, the lane counts) are the types of Word.lean
and the lane counts of the operations. The spec leaves no value undefined, so there is no free value here. -/

namespace Sys2Proof.Config

/-- CSR_RESET, default 0x00001F80 (R6, R33, D7): all masks set, all flags clear, RC nearest, DAZ = FTZ = 0. -/
def csrReset : CsrWord := 0x00001F80#32

/-- N_REQUESTERS at reset (R6: "any number ≥ 1"). DESIGN CHOICE, log 10: one. `State.resetWith` takes any other number. -/
def requesterCount : Nat := 1

end Sys2Proof.Config
end

