-- ==== Sys2Proof/Machine/State.lean ====
section
/-! DEFINITION. The state of the machine: the block's one register CSR (R20), the signals of its command port (R22), and the
requesters that drive it (R45, R46); the reasons a step can stop (none is reachable); the state after reset (R310). -/

namespace Sys2Proof.Machine

/-- One command as a requester issues it: the values it drives on CMD, A and B (R22). -/
structure Command where
  /-- CMD, the command word (R60). -/
  cmd : CommandWord
  /-- A, the first operand. -/
  a : Vec256
  /-- B, the second operand. -/
  b : Vec256
deriving DecidableEq, Repr

/-- The state. Only `csr` is state of the block itself (R20, R35); the port fields hold what was last driven or sampled, and
`requesters` and `schedule` are the agents outside it (log 3). -/
structure State where
  /-- CSR, the control/status register (R29). Read it through `State.readCsr`, which gives R32's zeros in bits 31:16. -/
  csr : CsrWord
  /-- Input CMD, as last sampled (R22). -/
  cmd : CommandWord
  /-- Input A, as last sampled (R22). -/
  a : Vec256
  /-- Input B, as last sampled (R22). -/
  b : Vec256
  /-- Output R of the last command (R22). -/
  r : Vec256
  /-- Output ERR of the last command (R280). -/
  err : ErrCode
  /-- Per requester, the commands it has not issued yet, first to go first (R45, R46). -/
  requesters : List (List Command)
  /-- Whose turn it is next, and after that: each entry numbers a requester (R46). -/
  schedule : List Nat
deriving DecidableEq, Repr

/-- The faults: there is none. R284: the block takes no trap; an error is an outcome on ERR and the block stays ready (R281),
so it is a next state (log 8). Nothing raises a fault; safe. -/
inductive Fault
deriving DecidableEq, Repr

/-- Why a step can be refused. -/
inductive Refusal where
  /-- Raised by `exec` alone, in the arm of an instruction that has no meaning in the model. Safe: the model stops. Every
  instruction has its meaning, so no step raises it. -/
  | notModelled (mnemonic : String)
deriving DecidableEq, Repr

/-- Reset with CSR_RESET and N_REQUESTERS as arguments (R6, R33, R310). The ports hold 0 until a command drives them
(DESIGN CHOICE, log 1 and log 2); every requester has nothing to send and nobody has a turn (log 3). -/
def State.resetWith (csrReset : CsrWord) (requesterCount : Nat) : State where
  csr := csrReset
  cmd := 0
  a := 0
  b := 0
  r := 0
  err := 0
  requesters := List.replicate requesterCount []
  schedule := []

/-- The machine right after reset, the parameters at their defaults. -/
def State.reset : State := State.resetWith Config.csrReset Config.requesterCount

end Sys2Proof.Machine
end

