-- ==== Sys2Proof/Machine/Ops.lean ====
section
/-! DEFINITION. The named operations over the state: the one read and the one write of CSR, completing a command, raising an
error (which is all the block has for an exception: R281, R284; there is nothing to return from, R285), driving the port, and
taking a requester's turn (R45, R46). -/

namespace Sys2Proof.Machine

/-- The errors a command raises (R280). Code 3 is not among them: it is never driven (R289). -/
inductive ErrorKind where
  | invalidArgument
  | reservedEncoding
deriving DecidableEq, Repr

/-- The ERR code of an error (R280). -/
def ErrorKind.code : ErrorKind → ErrCode
  | .invalidArgument => 1
  | .reservedEncoding => 2

/-- What a read of CSR gives: bits 31:16 always read as zero (R32). -/
def State.readCsr (s : State) : CsrWord := (s.csr.extractLsb' 0 16).setWidth 32

/-- `CSR <- v` (R271), every field of it. -/
def State.writeCsr (s : State) (v : CsrWord) : State := { s with csr := v }

/-- The outcome of a command that completed: R is driven with the result and ERR with 0 (R280). -/
def State.complete (s : State) (result : Vec256) : State := { s with r := result, err := 0 }

/-- The outcome of a command that raises an error: ERR is driven with its code, R with 0, and nothing else happens (R281). -/
def State.raise (s : State) (e : ErrorKind) : State := { s with r := 0, err := e.code }

/-- The outcome of a reserved command word: ReservedEncoding, whatever its operands and its immediate are (R64, R282). -/
def State.rejectWord (s : State) : Host.Outcome State Fault Refusal := .next (s.raise .reservedEncoding)

/-- A requester drives the port for one command (R22, R44). -/
def State.present (s : State) (c : Command) : State := { s with cmd := c.cmd, a := c.a, b := c.b }

/-- Whether a step has a command to execute. -/
inductive Turn where
  /-- Nobody issues a command in this step. -/
  | idle (s : State)
  /-- The port holds the command to execute. -/
  | issued (s : State)
deriving DecidableEq, Repr

/-- Take the schedule's next turn: the requester it names issues its next command, which leaves its list and stands on the
port (R45). With no turn left, or a requester that is absent or has nothing to send, nothing is issued (log 4). -/
def State.takeTurn (s : State) : Turn :=
  match s.schedule with
  | [] => .idle s
  | k :: ks =>
    match s.requesters[k]? with
    | some (c :: cs) =>
      .issued ({ s with requesters := s.requesters.set k cs, schedule := ks }.present c)
    | _ => .idle { s with schedule := ks }

/-- Put a command before all others: requester 0 issues it in the next turn. -/
def State.submitFirst (s : State) (c : Command) : State :=
  { s with
    requesters := (c :: s.requesters.headD []) :: s.requesters.tail
    schedule := 0 :: s.schedule }

end Sys2Proof.Machine
end

