-- ==== Sys2Proof/Machine/Compare.lean ====
section
/-! DEFINITION. The NaN-aware compare engine (R170 to R184): the table of the 32 predicate codes (R174), the lane masks (R178),
the eight primitive predicates and the composition of each code from them (R172, R173, R176), and the four compare commands. -/

namespace Sys2Proof.Machine

/-- The names of the 32 predicate codes (R174): eqOQ is EQ_OQ, and so on. -/
inductive PredicateName where
  | eqOQ
  | ltOS
  | leOS
  | unordQ
  | neqUQ
  | nltUS
  | nleUS
  | ordQ
  | eqUQ
  | ngeUS
  | ngtUS
  | falseOQ
  | neqOQ
  | geOS
  | gtOS
  | trueUQ
  | eqOS
  | ltOQ
  | leOQ
  | unordS
  | neqUS
  | nltUQ
  | nleUQ
  | ordS
  | eqUS
  | ngeUQ
  | ngtUQ
  | falseOS
  | neqOS
  | geOQ
  | gtOQ
  | trueUS
deriving DecidableEq, Repr

/-- A row of the table R174: the lane result for each relation. -/
structure PredicateRow where
  name : PredicateName
  onLT : Bool
  onEQ : Bool
  onGT : Bool
  onUN : Bool
deriving DecidableEq, Repr

/-- The table R174, the rows of codes 0x00 to 0x1F in order. -/
def predicateTable : List PredicateRow :=
  [⟨.eqOQ, false, true, false, false⟩,
   ⟨.ltOS, true, false, false, false⟩,
   ⟨.leOS, true, true, false, false⟩,
   ⟨.unordQ, false, false, false, true⟩,
   ⟨.neqUQ, true, false, true, true⟩,
   ⟨.nltUS, false, true, true, true⟩,
   ⟨.nleUS, false, false, true, true⟩,
   ⟨.ordQ, true, true, true, false⟩,
   ⟨.eqUQ, false, true, false, true⟩,
   ⟨.ngeUS, true, false, false, true⟩,
   ⟨.ngtUS, true, true, false, true⟩,
   ⟨.falseOQ, false, false, false, false⟩,
   ⟨.neqOQ, true, false, true, false⟩,
   ⟨.geOS, false, true, true, false⟩,
   ⟨.gtOS, false, false, true, false⟩,
   ⟨.trueUQ, true, true, true, true⟩,
   ⟨.eqOS, false, true, false, false⟩,
   ⟨.ltOQ, true, false, false, false⟩,
   ⟨.leOQ, true, true, false, false⟩,
   ⟨.unordS, false, false, false, true⟩,
   ⟨.neqUS, true, false, true, true⟩,
   ⟨.nltUQ, false, true, true, true⟩,
   ⟨.nleUQ, false, false, true, true⟩,
   ⟨.ordS, true, true, true, false⟩,
   ⟨.eqUS, false, true, false, true⟩,
   ⟨.ngeUQ, true, false, false, true⟩,
   ⟨.ngtUQ, true, true, false, true⟩,
   ⟨.falseOS, false, false, false, false⟩,
   ⟨.neqOS, true, false, true, false⟩,
   ⟨.geOQ, false, true, true, false⟩,
   ⟨.gtOQ, false, false, true, false⟩,
   ⟨.trueUS, true, true, true, true⟩]

/-- The row a predicate code selects; none above 0x1F (R66, R177). -/
def predicateOf (p : Imm8) : Option PredicateRow := predicateTable[p.toNat]?

/-- The code of a predicate name: its place in the table (R174). -/
def PredicateName.code (name : PredicateName) : Imm8 :=
  BitVec.ofNat 8 (predicateTable.findIdx fun row => row.name == name)

/-- The truth of a row on a relation (R174). -/
def PredicateRow.onRelation (row : PredicateRow) : Relation → Bool
  | .lt => row.onLT
  | .eq => row.onEQ
  | .gt => row.onGT
  | .un => row.onUN

/-- `mask_w(t)`: all ones or all zeros (R178). -/
def maskLane (w : Nat) (t : Bool) : BitVec w := if t then BitVec.allOnes w else 0

/-- The mask of one lane (R174, R178). -/
def compareLane (fmt : FloatFormat) (row : PredicateRow) {w : Nat} (a b : BitVec w) : BitVec w :=
  maskLane w (row.onRelation (rel fmt a b))

/-- A compare command: the predicate code first, InvalidArgument above 0x1F (R177), then the result of its row. -/
def comparing (p : Imm8) (s : State) (result : PredicateRow → Vec256) : Host.Outcome State Fault Refusal :=
  match predicateOf p with
  | none => .next (s.raise .invalidArgument)
  | some row => .next (s.complete (result row))

/-- The splice of a scalar compare (R181, R182): lane 0 of width w is the mask, the rest of `A[127:0]` passes through. -/
def spliceLow (w : Nat) (m : BitVec w) (a : Vec128) : Vec128 :=
  ((a >>> w) <<< w) ||| m.setWidth 128

/-- CMPPS.128 (R179). -/
def execCmpps128 (p : Imm8) (s : State) : Host.Outcome State Fault Refusal :=
  comparing p s fun row => form128 (zipLanes 32 4 (compareLane binary32 row)) s.a s.b

/-- CMPPS.256 (R179, R62). -/
def execCmpps256 (p : Imm8) (s : State) : Host.Outcome State Fault Refusal :=
  comparing p s fun row => form256 (zipLanes 32 4 (compareLane binary32 row)) s.a s.b

/-- CMPPD.128 (R180). -/
def execCmppd128 (p : Imm8) (s : State) : Host.Outcome State Fault Refusal :=
  comparing p s fun row => form128 (zipLanes 64 2 (compareLane binary64 row)) s.a s.b

/-- CMPPD.256 (R180, R62). -/
def execCmppd256 (p : Imm8) (s : State) : Host.Outcome State Fault Refusal :=
  comparing p s fun row => form256 (zipLanes 64 2 (compareLane binary64 row)) s.a s.b

/-- CMPSS (R181). -/
def execCmpss (p : Imm8) (s : State) : Host.Outcome State Fault Refusal :=
  comparing p s fun row =>
    form128 (fun a b => spliceLow 32 (compareLane binary32 row (lane 32 0 a) (lane 32 0 b)) a) s.a s.b

/-- CMPSD (R182). -/
def execCmpsd (p : Imm8) (s : State) : Host.Outcome State Fault Refusal :=
  comparing p s fun row =>
    form128 (fun a b => spliceLow 64 (compareLane binary64 row (lane 64 0 a) (lane 64 0 b)) a) s.a s.b

/-! ### The eight primitives and the compositions (R172, R173, R176). Informative: R176 makes the table the definition, and
an obligation says that the two agree. -/

/-- EQ(a, b). -/
def primEQ (fmt : FloatFormat) {n : Nat} (a b : BitVec n) : Bool := rel fmt a b == .eq
/-- LT(a, b). -/
def primLT (fmt : FloatFormat) {n : Nat} (a b : BitVec n) : Bool := rel fmt a b == .lt
/-- LE(a, b). -/
def primLE (fmt : FloatFormat) {n : Nat} (a b : BitVec n) : Bool := rel fmt a b == .lt || rel fmt a b == .eq
/-- UNORD(a, b). -/
def primUNORD (fmt : FloatFormat) {n : Nat} (a b : BitVec n) : Bool := rel fmt a b == .un
/-- NEQ(a, b), the negation of EQ, true on unordered. -/
def primNEQ (fmt : FloatFormat) {n : Nat} (a b : BitVec n) : Bool := !primEQ fmt a b
/-- NLT(a, b), the negation of LT. -/
def primNLT (fmt : FloatFormat) {n : Nat} (a b : BitVec n) : Bool := !primLT fmt a b
/-- NLE(a, b), the negation of LE. -/
def primNLE (fmt : FloatFormat) {n : Nat} (a b : BitVec n) : Bool := !primLE fmt a b
/-- ORD(a, b). -/
def primORD (fmt : FloatFormat) {n : Nat} (a b : BitVec n) : Bool := !primUNORD fmt a b

/-- The composition column of R174, with GE(a, b) = LE(b, a) (R173). -/
def composed (fmt : FloatFormat) {n : Nat} (name : PredicateName) (a b : BitVec n) : Bool :=
  match name with
  | .eqOQ => primEQ fmt a b
  | .ltOS => primLT fmt a b
  | .leOS => primLE fmt a b
  | .unordQ => primUNORD fmt a b
  | .neqUQ => primNEQ fmt a b
  | .nltUS => primNLT fmt a b
  | .nleUS => primNLE fmt a b
  | .ordQ => primORD fmt a b
  | .eqUQ => primEQ fmt a b || primUNORD fmt a b
  | .ngeUS => primNLE fmt b a
  | .ngtUS => primNLT fmt b a
  | .falseOQ => false
  | .neqOQ => primNEQ fmt a b && primORD fmt a b
  | .geOS => primLE fmt b a && primORD fmt a b
  | .gtOS => primLT fmt b a
  | .trueUQ => true
  | .eqOS => primEQ fmt a b
  | .ltOQ => primLT fmt a b
  | .leOQ => primLE fmt a b
  | .unordS => primUNORD fmt a b
  | .neqUS => primNEQ fmt a b
  | .nltUQ => primNLT fmt a b
  | .nleUQ => primNLE fmt a b
  | .ordS => primORD fmt a b
  | .eqUS => primEQ fmt a b || primUNORD fmt a b
  | .ngeUQ => primNLE fmt b a
  | .ngtUQ => primNLT fmt b a
  | .falseOS => false
  | .neqOS => primNEQ fmt a b && primORD fmt a b
  | .geOQ => primLE fmt b a && primORD fmt a b
  | .gtOQ => primLT fmt b a
  | .trueUS => true

end Sys2Proof.Machine
end

