-- ==== Sys2Proof/Machine/CsrAccess.lean ====
section
/-! DEFINITION. The commands that read and write the control/status register (R270, R271). -/

namespace Sys2Proof.Machine

/-- GETCSR (R270): `R[31:0] <- CSR`, the rest of R zero; CSR is not changed. -/
def execGetcsr (s : State) : Host.Outcome State Fault Refusal :=
  .next (s.complete (s.readCsr.setWidth 256))

/-- SETCSR (R271): InvalidArgument when `A[31:16] ≠ 0`, otherwise `CSR <- A[31:0]` and R = 0. -/
def execSetcsr (s : State) : Host.Outcome State Fault Refusal :=
  if s.a.extractLsb' 16 16 ≠ 0 then .next (s.raise .invalidArgument)
  else .next ((s.writeCsr (s.a.extractLsb' 0 32)).complete 0)

end Sys2Proof.Machine
end

