-- ==== Sys2Proof/Machine/HalfDecode.lean ====
section
/-! DEFINITION. The float16 to float32 decoder (R210 to R213). -/

namespace Sys2Proof.Machine

/-- A float32 pattern from its sign, biased exponent and fraction (R11). -/
def packSingle (s : Bool) (e m : Nat) : BitVec 32 :=
  BitVec.ofBool s ++ BitVec.ofNat 8 e ++ BitVec.ofNat 23 m

/-- `H2F(h)` (R210): exact, no rounding, no CSR field read (R211), a NaN's payload moved and not quieted (R212). -/
def h2f (h : BitVec 16) : BitVec 32 :=
  let s := signOf binary16 h
  let e := expOf binary16 h
  let m := fracOf binary16 h
  if e = 0 ∧ m = 0 then packSingle s 0 0
  else if e = 0 then
    let p := 11 - bitlen m
    packSingle s (113 - p) ((m <<< p) % 2 ^ 10 * 2 ^ 13)
  else if e = 31 then packSingle s 0xFF (m * 2 ^ 13)
  else packSingle s (e + 112) (m * 2 ^ 13)

/-- VCVTPH2PS.128 (R213): half lanes 0 to 3 of A to float lanes 0 to 3, `R[255:128] = 0`. -/
def execVcvtph2ps128 (s : State) : Host.Outcome State Fault Refusal :=
  .next (s.complete (ofLanes 256 32 4 fun i => h2f (lane 16 i s.a)))

/-- VCVTPH2PS.256 (R213): half lanes 0 to 7 of A to float lanes 0 to 7. -/
def execVcvtph2ps256 (s : State) : Host.Outcome State Fault Refusal :=
  .next (s.complete (ofLanes 256 32 8 fun i => h2f (lane 16 i s.a)))

end Sys2Proof.Machine
end

