-- ==== Sys2Proof/Machine/HalfEncode.lean ====
section
/-! DEFINITION. The float32 to float16 converter (R230 to R235), the rounding selection (R237, R238) and its command (R240). -/

namespace Sys2Proof.Machine

/-- A float16 pattern from its sign and its bits 14:0. -/
def packHalf (s : Bool) (magnitude : Nat) : BitVec 16 := BitVec.ofBool s ++ BitVec.ofNat 15 magnitude

/-- `overflow_to_inf(mode, s)` (R230, R235). -/
def overflowToInf : RoundingMode → Bool → Bool
  | .rne, _ => true
  | .ru, s => !s
  | .rd, s => s
  | .rz, _ => false

/-- The rounding increment (R230, R233): `t` truncated magnitude, `rem` discarded part, `half` half an ulp. -/
def roundingIncrement (mode : RoundingMode) (s : Bool) (t rem half : Nat) : Bool :=
  match mode with
  | .rne => decide (rem > half) || (rem == half && t % 2 == 1)
  | .rz => false
  | .ru => !s && rem != 0
  | .rd => s && rem != 0

/-- The conversion of a finite, nonzero float32 whose magnitude is `N · 2^k` with `2^e` the power of two below it (R230). -/
def f2hFinite (mode : RoundingMode) (s : Bool) (N : Nat) (k e : Int) : BitVec 16 :=
  if e > 15 then packHalf s (if overflowToInf mode s then 0x7C00 else 0x7BFF)
  else
    let j : Int := max e (-14) - 10
    let d : Nat := (j - k).toNat
    let t : Nat := N >>> d
    let rem : Nat := N % 2 ^ d
    let half : Nat := 2 ^ (d - 1)
    let inc : Nat := if roundingIncrement mode s t rem half then 1 else 0
    if e ≥ -14 then packHalf s (((e + 15).toNat <<< 10) + (t - 1024) + inc)
    else packHalf s (t + inc)

/-- `F2H(f, mode)` (R230): the correctly rounded conversion; special inputs as R231, denormals by value (R232). -/
def f2h (f : BitVec 32) (mode : RoundingMode) : BitVec 16 :=
  let s := signOf binary32 f
  let E := expOf binary32 f
  let M := fracOf binary32 f
  if E = 0xFF ∧ M = 0 then packHalf s 0x7C00
  else if E = 0xFF then packHalf s (0x7E00 ||| (M >>> 13))
  else if E = 0 ∧ M = 0 then packHalf s 0
  else if E = 0 then f2hFinite mode s M (-149) ((bitlen M : Int) - 150)
  else f2hFinite mode s (M ||| 0x800000) ((E : Int) - 150) ((E : Int) - 127)

/-- `select(IMM8, CSR)` (R237): bits 7:4 must be zero (none is InvalidArgument), bit 3 is ignored, bit 2 set takes CSR.RC,
otherwise bits 1:0. -/
def selectRounding (sel : Imm8) (csr : CsrWord) : Option RoundingMode :=
  if sel.extractLsb' 4 4 ≠ 0 then none
  else some (RoundingMode.ofCode (if sel.getLsbD 2 then csrRC csr else sel.extractLsb' 0 2))

/-- The names of the rounding selectors (R238). -/
inductive RoundingName where
  | nintNoexc
  | floorNoexc
  | ceilNoexc
  | truncNoexc
  | rintNoexc
deriving DecidableEq, Repr

/-- The value of a selector name (R238). -/
def RoundingName.code : RoundingName → Imm8
  | .nintNoexc => 0x08
  | .floorNoexc => 0x09
  | .ceilNoexc => 0x0A
  | .truncNoexc => 0x0B
  | .rintNoexc => 0x0C

/-- A conversion command: the selector first, InvalidArgument when its bits 7:4 are not zero, then the result in its mode.
CSR is read at the moment the command executes and never written (R237, R240). -/
def converting (sel : Imm8) (s : State) (result : RoundingMode → Vec256) : Host.Outcome State Fault Refusal :=
  match selectRounding sel s.readCsr with
  | none => .next (s.raise .invalidArgument)
  | some mode => .next (s.complete (result mode))

/-- VCVTPS2PH.128 (R240): float lanes 0 to 3 of A to half lanes 0 to 3, `R[255:64] = 0`. -/
def execVcvtps2ph128 (sel : Imm8) (s : State) : Host.Outcome State Fault Refusal :=
  converting sel s fun mode => ofLanes 256 16 4 fun i => f2h (lane 32 i s.a) mode

/-- VCVTPS2PH.256 (R240): float lanes 0 to 7 of A to half lanes 0 to 7, `R[255:128] = 0`. -/
def execVcvtps2ph256 (sel : Imm8) (s : State) : Host.Outcome State Fault Refusal :=
  converting sel s fun mode => ofLanes 256 16 8 fun i => f2h (lane 32 i s.a) mode

end Sys2Proof.Machine
end

