-- ==== Sys2Proof/Machine/Saturate.lean ====
section
/-! DEFINITION. The saturation primitive (R10, R100, R101, R102): exact integer arithmetic, then the clamp to the target type's
bounds, then the low bits. -/

namespace Sys2Proof.Machine

/-- The saturation target types (R100). -/
inductive SatType where
  | int8
  | uint8
  | int16
  | uint16
deriving DecidableEq, Repr

/-- The least value of a target type (R100). -/
def SatType.lo : SatType → Int
  | .int8 => -128
  | .uint8 => 0
  | .int16 => -32768
  | .uint16 => 0

/-- The greatest value of a target type (R100). -/
def SatType.hi : SatType → Int
  | .int8 => 127
  | .uint8 => 255
  | .int16 => 32767
  | .uint16 => 65535

/-- How a lane of the add and subtract forms is read: two's complement for the S forms, unsigned for the US forms (R111). -/
def SatType.read (t : SatType) {w : Nat} (x : BitVec w) : Int :=
  match t with
  | .int8 => x.toInt
  | .uint8 => (x.toNat : Int)
  | .int16 => x.toInt
  | .uint16 => (x.toNat : Int)

/-- `clamp(x, lo, hi)` (R10). -/
def clamp (x lo hi : Int) : Int :=
  if x < lo then lo else if hi < x then hi else x

/-- `trunc_w(sat_T(x))` (R100). -/
def saturate (t : SatType) (w : Nat) (x : Int) : BitVec w :=
  BitVec.ofInt w (clamp x t.lo t.hi)

/-- The saturated sum of two lanes, exact before the clamp (R102). -/
def addSat (t : SatType) {w : Nat} (x y : BitVec w) : BitVec w := saturate t w (t.read x + t.read y)

/-- The saturated difference of two lanes, exact before the clamp (R102). -/
def subSat (t : SatType) {w : Nat} (x y : BitVec w) : BitVec w := saturate t w (t.read x - t.read y)

end Sys2Proof.Machine
end

