-- ==== Sys2Proof/Machine/Pack.lean ====
section
/-! DEFINITION. Saturating pack (R130 to R134). Source lanes are signed in all four; in each 128-bit half A's narrowed lanes lie low,
B's high (R130, D20). -/

namespace Sys2Proof.Machine

/-- The lanes of a 128-bit half narrowed to half their width w with saturation: `count` lanes, 64 bits. -/
def narrowLanes (t : SatType) (w count : Nat) (v : Vec128) : BitVec 64 :=
  ofLanes 64 (w / 2) count fun i => saturate t (w / 2) (lane w i v).toInt

/-- The pack of one 128-bit half (R130): `count` source lanes of width w from A, then as many from B. -/
def pack128 (t : SatType) (w count : Nat) (a b : Vec128) : Vec128 :=
  narrowLanes t w count b ++ narrowLanes t w count a

/-- PACKSSWB.128 (R131): signed 16-bit lanes to int8. -/
def execPacksswb128 (s : State) : Host.Outcome State Fault Refusal :=
  .next (s.complete (form128 (pack128 .int8 16 8) s.a s.b))

/-- PACKSSWB.256 (R131): signed 16-bit lanes to int8. -/
def execPacksswb256 (s : State) : Host.Outcome State Fault Refusal :=
  .next (s.complete (form256 (pack128 .int8 16 8) s.a s.b))

/-- PACKUSWB.128 (R132): signed 16-bit lanes to uint8. -/
def execPackuswb128 (s : State) : Host.Outcome State Fault Refusal :=
  .next (s.complete (form128 (pack128 .uint8 16 8) s.a s.b))

/-- PACKUSWB.256 (R132): signed 16-bit lanes to uint8. -/
def execPackuswb256 (s : State) : Host.Outcome State Fault Refusal :=
  .next (s.complete (form256 (pack128 .uint8 16 8) s.a s.b))

/-- PACKSSDW.128 (R133): signed 32-bit lanes to int16. -/
def execPackssdw128 (s : State) : Host.Outcome State Fault Refusal :=
  .next (s.complete (form128 (pack128 .int16 32 4) s.a s.b))

/-- PACKSSDW.256 (R133): signed 32-bit lanes to int16. -/
def execPackssdw256 (s : State) : Host.Outcome State Fault Refusal :=
  .next (s.complete (form256 (pack128 .int16 32 4) s.a s.b))

/-- PACKUSDW.128 (R134): signed 32-bit lanes to uint16. -/
def execPackusdw128 (s : State) : Host.Outcome State Fault Refusal :=
  .next (s.complete (form128 (pack128 .uint16 32 4) s.a s.b))

/-- PACKUSDW.256 (R134): signed 32-bit lanes to uint16. -/
def execPackusdw256 (s : State) : Host.Outcome State Fault Refusal :=
  .next (s.complete (form256 (pack128 .uint16 32 4) s.a s.b))

end Sys2Proof.Machine
end

