-- ==== Sys2Proof/Machine/SatAddSub.lean ====
section
/-! DEFINITION. Saturating add and subtract (R100 to R111). Every lane alone, exact before the clamp; no flag, no error. -/

namespace Sys2Proof.Machine

/-- PADDSB.128 (R103): A + B in 8-bit lanes, saturated to int8. -/
def execPaddsb128 (s : State) : Host.Outcome State Fault Refusal :=
  .next (s.complete (form128 (zipLanes 8 16 (addSat .int8)) s.a s.b))

/-- PADDSB.256 (R103): A + B in 8-bit lanes, saturated to int8. -/
def execPaddsb256 (s : State) : Host.Outcome State Fault Refusal :=
  .next (s.complete (form256 (zipLanes 8 16 (addSat .int8)) s.a s.b))

/-- PADDSW.128 (R104): A + B in 16-bit lanes, saturated to int16. -/
def execPaddsw128 (s : State) : Host.Outcome State Fault Refusal :=
  .next (s.complete (form128 (zipLanes 16 8 (addSat .int16)) s.a s.b))

/-- PADDSW.256 (R104): A + B in 16-bit lanes, saturated to int16. -/
def execPaddsw256 (s : State) : Host.Outcome State Fault Refusal :=
  .next (s.complete (form256 (zipLanes 16 8 (addSat .int16)) s.a s.b))

/-- PADDUSB.128 (R105): A + B in 8-bit lanes, saturated to uint8. -/
def execPaddusb128 (s : State) : Host.Outcome State Fault Refusal :=
  .next (s.complete (form128 (zipLanes 8 16 (addSat .uint8)) s.a s.b))

/-- PADDUSB.256 (R105): A + B in 8-bit lanes, saturated to uint8. -/
def execPaddusb256 (s : State) : Host.Outcome State Fault Refusal :=
  .next (s.complete (form256 (zipLanes 8 16 (addSat .uint8)) s.a s.b))

/-- PADDUSW.128 (R106): A + B in 16-bit lanes, saturated to uint16. -/
def execPaddusw128 (s : State) : Host.Outcome State Fault Refusal :=
  .next (s.complete (form128 (zipLanes 16 8 (addSat .uint16)) s.a s.b))

/-- PADDUSW.256 (R106): A + B in 16-bit lanes, saturated to uint16. -/
def execPaddusw256 (s : State) : Host.Outcome State Fault Refusal :=
  .next (s.complete (form256 (zipLanes 16 8 (addSat .uint16)) s.a s.b))

/-- PSUBSB.128 (R107): A − B in 8-bit lanes, saturated to int8. -/
def execPsubsb128 (s : State) : Host.Outcome State Fault Refusal :=
  .next (s.complete (form128 (zipLanes 8 16 (subSat .int8)) s.a s.b))

/-- PSUBSB.256 (R107): A − B in 8-bit lanes, saturated to int8. -/
def execPsubsb256 (s : State) : Host.Outcome State Fault Refusal :=
  .next (s.complete (form256 (zipLanes 8 16 (subSat .int8)) s.a s.b))

/-- PSUBSW.128 (R108): A − B in 16-bit lanes, saturated to int16. -/
def execPsubsw128 (s : State) : Host.Outcome State Fault Refusal :=
  .next (s.complete (form128 (zipLanes 16 8 (subSat .int16)) s.a s.b))

/-- PSUBSW.256 (R108): A − B in 16-bit lanes, saturated to int16. -/
def execPsubsw256 (s : State) : Host.Outcome State Fault Refusal :=
  .next (s.complete (form256 (zipLanes 16 8 (subSat .int16)) s.a s.b))

/-- PSUBUSB.128 (R109): A − B in 8-bit lanes, saturated to uint8. -/
def execPsubusb128 (s : State) : Host.Outcome State Fault Refusal :=
  .next (s.complete (form128 (zipLanes 8 16 (subSat .uint8)) s.a s.b))

/-- PSUBUSB.256 (R109): A − B in 8-bit lanes, saturated to uint8. -/
def execPsubusb256 (s : State) : Host.Outcome State Fault Refusal :=
  .next (s.complete (form256 (zipLanes 8 16 (subSat .uint8)) s.a s.b))

/-- PSUBUSW.128 (R110): A − B in 16-bit lanes, saturated to uint16. -/
def execPsubusw128 (s : State) : Host.Outcome State Fault Refusal :=
  .next (s.complete (form128 (zipLanes 16 8 (subSat .uint16)) s.a s.b))

/-- PSUBUSW.256 (R110): A − B in 16-bit lanes, saturated to uint16. -/
def execPsubusw256 (s : State) : Host.Outcome State Fault Refusal :=
  .next (s.complete (form256 (zipLanes 16 8 (subSat .uint16)) s.a s.b))

end Sys2Proof.Machine
end

