-- ==== Sys2Proof/Machine/Unpack.lean ====
section
/-! DEFINITION. Unpack, the interleave operations (R140 to R148): in each 128-bit half, A's lane then B's, from the low or the high 64 bits. -/

namespace Sys2Proof.Machine

/-- The interleave of one 128-bit half (R140): lanes of width w, `count` of each operand from lane `first` on, A's lane in the
even place. -/
def interleave128 (w count first : Nat) (a b : Vec128) : Vec128 :=
  ofLanes 128 w (2 * count) fun j =>
    if j % 2 = 0 then lane w (first + j / 2) a else lane w (first + j / 2) b

/-- PUNPCKLBW.128 (R141): the low 8-bit lanes of each half, interleaved. -/
def execPunpcklbw128 (s : State) : Host.Outcome State Fault Refusal :=
  .next (s.complete (form128 (interleave128 8 8 0) s.a s.b))

/-- PUNPCKLBW.256 (R141): the low 8-bit lanes of each half, interleaved. -/
def execPunpcklbw256 (s : State) : Host.Outcome State Fault Refusal :=
  .next (s.complete (form256 (interleave128 8 8 0) s.a s.b))

/-- PUNPCKHBW.128 (R142): the high 8-bit lanes of each half, interleaved. -/
def execPunpckhbw128 (s : State) : Host.Outcome State Fault Refusal :=
  .next (s.complete (form128 (interleave128 8 8 8) s.a s.b))

/-- PUNPCKHBW.256 (R142): the high 8-bit lanes of each half, interleaved. -/
def execPunpckhbw256 (s : State) : Host.Outcome State Fault Refusal :=
  .next (s.complete (form256 (interleave128 8 8 8) s.a s.b))

/-- PUNPCKLWD.128 (R143): the low 16-bit lanes of each half, interleaved. -/
def execPunpcklwd128 (s : State) : Host.Outcome State Fault Refusal :=
  .next (s.complete (form128 (interleave128 16 4 0) s.a s.b))

/-- PUNPCKLWD.256 (R143): the low 16-bit lanes of each half, interleaved. -/
def execPunpcklwd256 (s : State) : Host.Outcome State Fault Refusal :=
  .next (s.complete (form256 (interleave128 16 4 0) s.a s.b))

/-- PUNPCKHWD.128 (R144): the high 16-bit lanes of each half, interleaved. -/
def execPunpckhwd128 (s : State) : Host.Outcome State Fault Refusal :=
  .next (s.complete (form128 (interleave128 16 4 4) s.a s.b))

/-- PUNPCKHWD.256 (R144): the high 16-bit lanes of each half, interleaved. -/
def execPunpckhwd256 (s : State) : Host.Outcome State Fault Refusal :=
  .next (s.complete (form256 (interleave128 16 4 4) s.a s.b))

/-- PUNPCKLDQ.128 (R145): the low 32-bit lanes of each half, interleaved. -/
def execPunpckldq128 (s : State) : Host.Outcome State Fault Refusal :=
  .next (s.complete (form128 (interleave128 32 2 0) s.a s.b))

/-- PUNPCKLDQ.256 (R145): the low 32-bit lanes of each half, interleaved. -/
def execPunpckldq256 (s : State) : Host.Outcome State Fault Refusal :=
  .next (s.complete (form256 (interleave128 32 2 0) s.a s.b))

/-- PUNPCKHDQ.128 (R146): the high 32-bit lanes of each half, interleaved. -/
def execPunpckhdq128 (s : State) : Host.Outcome State Fault Refusal :=
  .next (s.complete (form128 (interleave128 32 2 2) s.a s.b))

/-- PUNPCKHDQ.256 (R146): the high 32-bit lanes of each half, interleaved. -/
def execPunpckhdq256 (s : State) : Host.Outcome State Fault Refusal :=
  .next (s.complete (form256 (interleave128 32 2 2) s.a s.b))

/-- PUNPCKLQDQ.128 (R147): the low 64-bit lanes of each half, interleaved. -/
def execPunpcklqdq128 (s : State) : Host.Outcome State Fault Refusal :=
  .next (s.complete (form128 (interleave128 64 1 0) s.a s.b))

/-- PUNPCKLQDQ.256 (R147): the low 64-bit lanes of each half, interleaved. -/
def execPunpcklqdq256 (s : State) : Host.Outcome State Fault Refusal :=
  .next (s.complete (form256 (interleave128 64 1 0) s.a s.b))

/-- PUNPCKHQDQ.128 (R148): the high 64-bit lanes of each half, interleaved. -/
def execPunpckhqdq128 (s : State) : Host.Outcome State Fault Refusal :=
  .next (s.complete (form128 (interleave128 64 1 1) s.a s.b))

/-- PUNPCKHQDQ.256 (R148): the high 64-bit lanes of each half, interleaved. -/
def execPunpckhqdq256 (s : State) : Host.Outcome State Fault Refusal :=
  .next (s.complete (form256 (interleave128 64 1 1) s.a s.b))

end Sys2Proof.Machine
end

