-- ==== Sys2Proof/Machine/Dispatch.lean ====
section
/-! DEFINITION. The meaning of each command, one arm per row of the opcode table. -/

namespace Sys2Proof.Machine

def exec (i : Instr) (s : State) : Host.Outcome State Fault Refusal :=
  match i with
  | .paddsb128 => Sys2Proof.Machine.execPaddsb128 s
  | .paddsb256 => Sys2Proof.Machine.execPaddsb256 s
  | .paddsw128 => Sys2Proof.Machine.execPaddsw128 s
  | .paddsw256 => Sys2Proof.Machine.execPaddsw256 s
  | .paddusb128 => Sys2Proof.Machine.execPaddusb128 s
  | .paddusb256 => Sys2Proof.Machine.execPaddusb256 s
  | .paddusw128 => Sys2Proof.Machine.execPaddusw128 s
  | .paddusw256 => Sys2Proof.Machine.execPaddusw256 s
  | .psubsb128 => Sys2Proof.Machine.execPsubsb128 s
  | .psubsb256 => Sys2Proof.Machine.execPsubsb256 s
  | .psubsw128 => Sys2Proof.Machine.execPsubsw128 s
  | .psubsw256 => Sys2Proof.Machine.execPsubsw256 s
  | .psubusb128 => Sys2Proof.Machine.execPsubusb128 s
  | .psubusb256 => Sys2Proof.Machine.execPsubusb256 s
  | .psubusw128 => Sys2Proof.Machine.execPsubusw128 s
  | .psubusw256 => Sys2Proof.Machine.execPsubusw256 s
  | .packsswb128 => Sys2Proof.Machine.execPacksswb128 s
  | .packsswb256 => Sys2Proof.Machine.execPacksswb256 s
  | .packuswb128 => Sys2Proof.Machine.execPackuswb128 s
  | .packuswb256 => Sys2Proof.Machine.execPackuswb256 s
  | .packssdw128 => Sys2Proof.Machine.execPackssdw128 s
  | .packssdw256 => Sys2Proof.Machine.execPackssdw256 s
  | .packusdw128 => Sys2Proof.Machine.execPackusdw128 s
  | .packusdw256 => Sys2Proof.Machine.execPackusdw256 s
  | .punpcklbw128 => Sys2Proof.Machine.execPunpcklbw128 s
  | .punpcklbw256 => Sys2Proof.Machine.execPunpcklbw256 s
  | .punpckhbw128 => Sys2Proof.Machine.execPunpckhbw128 s
  | .punpckhbw256 => Sys2Proof.Machine.execPunpckhbw256 s
  | .punpcklwd128 => Sys2Proof.Machine.execPunpcklwd128 s
  | .punpcklwd256 => Sys2Proof.Machine.execPunpcklwd256 s
  | .punpckhwd128 => Sys2Proof.Machine.execPunpckhwd128 s
  | .punpckhwd256 => Sys2Proof.Machine.execPunpckhwd256 s
  | .punpckldq128 => Sys2Proof.Machine.execPunpckldq128 s
  | .punpckldq256 => Sys2Proof.Machine.execPunpckldq256 s
  | .punpckhdq128 => Sys2Proof.Machine.execPunpckhdq128 s
  | .punpckhdq256 => Sys2Proof.Machine.execPunpckhdq256 s
  | .punpcklqdq128 => Sys2Proof.Machine.execPunpcklqdq128 s
  | .punpcklqdq256 => Sys2Proof.Machine.execPunpcklqdq256 s
  | .punpckhqdq128 => Sys2Proof.Machine.execPunpckhqdq128 s
  | .punpckhqdq256 => Sys2Proof.Machine.execPunpckhqdq256 s
  | .cmpps128 p => Sys2Proof.Machine.execCmpps128 p s
  | .cmpps256 p => Sys2Proof.Machine.execCmpps256 p s
  | .cmppd128 p => Sys2Proof.Machine.execCmppd128 p s
  | .cmppd256 p => Sys2Proof.Machine.execCmppd256 p s
  | .cmpss p => Sys2Proof.Machine.execCmpss p s
  | .cmpsd p => Sys2Proof.Machine.execCmpsd p s
  | .vcvtps2ph128 sel => Sys2Proof.Machine.execVcvtps2ph128 sel s
  | .vcvtps2ph256 sel => Sys2Proof.Machine.execVcvtps2ph256 sel s
  | .vcvtph2ps128 => Sys2Proof.Machine.execVcvtph2ps128 s
  | .vcvtph2ps256 => Sys2Proof.Machine.execVcvtph2ps256 s
  | .getcsr => Sys2Proof.Machine.execGetcsr s
  | .setcsr => Sys2Proof.Machine.execSetcsr s

end Sys2Proof.Machine
end

