-- ==== Sys2Proof/Machine/Step.lean ====
section
/-! DEFINITION. One step: a requester's turn, and the command on the port executed as one indivisible action (R44). -/

namespace Sys2Proof.Machine

/-- Execute the command that stands on the port: a reserved word raises ReservedEncoding before anything else is looked at
(R64, R282), every other word runs its instruction. -/
def executePort (s : State) : Host.Outcome State Fault Refusal :=
  match decode s.cmd with
  | .error _ => s.rejectWord
  | .ok i => exec i s

/-- One step: the next turn of the schedule, and the command it issues, if it issues one. -/
def step (s : State) : Host.Outcome State Fault Refusal :=
  match s.takeTurn with
  | .idle s' => .next s'
  | .issued s' => executePort s'

/-- The state whose next step runs the command word whose low `nbits` bits are `w`: requester 0 issues it first, with the
operands that already stand on A and B. This stands for a requester sending a command; nothing is loaded into the block,
which has no program (R27; log 3, log 13). -/
def State.withFetchWord (s : State) (nbits w : Nat) : State :=
  s.submitFirst { cmd := BitVec.ofNat 32 (w % 2 ^ nbits), a := s.a, b := s.b }

end Sys2Proof.Machine
end

