-- ==== Sys2Proof/Machine/Assembler.lean ====
section
/-! DEFINITION. The assembler's lines (R69) and the pseudo-instructions (R70). A line is `MNEMONIC[.128|.256] [imm]` as a
structure, not as characters. -/

namespace Sys2Proof.Machine

/-- The width suffix of a line (R69). -/
inductive WidthSuffix where
  | w128
  | w256
deriving DecidableEq, Repr

/-- The immediate of a line: hexadecimal, a predicate name (R174) or a rounding name (R238). -/
inductive AsmImm where
  | hex (v : Imm8)
  | predicate (name : PredicateName)
  | rounding (name : RoundingName)
deriving DecidableEq, Repr

/-- A line of the assembler (R69). -/
structure AsmLine where
  op : Op
  suffix : Option WidthSuffix
  imm : Option AsmImm
deriving DecidableEq, Repr

/-- The IMM8 value of a line's immediate (R69): an operation whose IMM8 must be 0 takes none, a compare takes a code or a
predicate name, the converter a code or a rounding name. DESIGN CHOICE (log 19): R69 does not say what a compare or converter
line without an immediate stands for; here its IMM8 is 0, as in the one such line of the spec, `CMPSS.256` of
95_test_vectors.md P3. DEDUCED (log 19): a rounding name on a compare and a predicate name on the converter are no lines. -/
def immediateValue : ImmUse → Option AsmImm → Option Imm8
  | .mustBeZero, none => some 0
  | .mustBeZero, some _ => none
  | .predicate, some (.hex v) => some v
  | .predicate, some (.predicate name) => some name.code
  | .predicate, some (.rounding _) => none
  | .predicate, none => some 0
  | .rounding, some (.hex v) => some v
  | .rounding, some (.rounding name) => some name.code
  | .rounding, some (.predicate _) => none
  | .rounding, none => some 0

/-- The word of a line: the suffix gives W, no suffix meaning `.128` (R69), and the fields are put together as R71 says. DEDUCED
(log 19): this holds for `.256` on CMPSS, CMPSD, GETCSR and SETCSR as well, whose word is reserved (R64). None where the line's
immediate is not one its operation takes. -/
def AsmLine.word (l : AsmLine) : Option CommandWord :=
  (immediateValue l.op.immUse l.imm).map fun v => assembleWord (l.suffix == some .w256) v l.op.code

/-- The command a line stands for: the one its word decodes to. None where the line has no word, and where its word is reserved
(R64; log 19): such a word still executes, as ReservedEncoding. -/
def assemble (l : AsmLine) : Option Instr :=
  match l.word with
  | none => none
  | some w =>
    match decode w with
    | .ok i => some i
    | .error _ => none

/-- The conditions of the x86 named compares (R70). -/
inductive NamedCompare where
  | eq
  | lt
  | le
  | unord
  | neq
  | nlt
  | nle
  | ord
  | nge
  | ngt
  | ge
  | gt
deriving DecidableEq, Repr

/-- The predicate code a named compare fixes (R70). -/
def NamedCompare.predicate : NamedCompare → PredicateName
  | .eq => .eqOQ
  | .lt => .ltOS
  | .le => .leOS
  | .unord => .unordQ
  | .neq => .neqUQ
  | .nlt => .nltUS
  | .nle => .nleUS
  | .ord => .ordQ
  | .nge => .ngeUS
  | .ngt => .ngtUS
  | .ge => .geOS
  | .gt => .gtOS

/-- The operand kinds of a named compare, the PS, PD, SS, SD of R70. -/
inductive CompareKind where
  | ps
  | pd
  | ss
  | sd
deriving DecidableEq, Repr

/-- The CMP operation of an operand kind. -/
def CompareKind.op : CompareKind → Op
  | .ps => .cmpps
  | .pd => .cmppd
  | .ss => .cmpss
  | .sd => .cmpsd

/-- The pseudo-instructions of R70: `CMP<cond>{PS,PD,SS,SD}` and `VCVTPS2PH.{RNE,RD,RU,RZ,CUR}`. -/
inductive Pseudo where
  | compare (cond : NamedCompare) (kind : CompareKind)
  | cvtRNE
  | cvtRD
  | cvtRU
  | cvtRZ
  | cvtCUR
deriving DecidableEq, Repr

/-- The expansion of a pseudo-instruction (R70), at a width suffix. DEDUCED (log 19): R70 writes its aliases without one; an alias
takes the suffix of the line it stands for. -/
def Pseudo.expand (p : Pseudo) (suffix : Option WidthSuffix) : AsmLine :=
  match p with
  | .compare cond kind => { op := kind.op, suffix := suffix, imm := some (.predicate cond.predicate) }
  | .cvtRNE => { op := .vcvtps2ph, suffix := suffix, imm := some (.rounding .nintNoexc) }
  | .cvtRD => { op := .vcvtps2ph, suffix := suffix, imm := some (.rounding .floorNoexc) }
  | .cvtRU => { op := .vcvtps2ph, suffix := suffix, imm := some (.rounding .ceilNoexc) }
  | .cvtRZ => { op := .vcvtps2ph, suffix := suffix, imm := some (.rounding .truncNoexc) }
  | .cvtCUR => { op := .vcvtps2ph, suffix := suffix, imm := some (.rounding .rintNoexc) }

end Sys2Proof.Machine
end

