-- ==== Sys2Proof/Machine/HalfTables.lean ====
section
/-! DEFINITION. The constant tables BaseTable and ShiftTable (R21, R234), the source's table path (R234), and the source's
corrections for truncate, ceiling and floor (R239). R230 is the definition of the result; this path is the check on it that
R234 and R239 describe, and obligations say where the two agree. No state holds the tables: they never change (R21). -/

namespace Sys2Proof.Machine

/-- The base and the shift of a biased exponent E with sign 0 (R234). -/
def halfTableRow (E : Nat) : Nat × Nat :=
  let e : Int := (E : Int) - 127
  if e < -24 then (0x0000, 24)
  else if e < -14 then (0x0400 >>> (-e - 14).toNat, (-e - 1).toNat)
  else if e ≤ 15 then ((e + 15).toNat <<< 10, 13)
  else if e < 128 then (0x7C00, 24)
  else (0x7C00, 13)

/-- `BaseTable[P]`, P the 9-bit prefix `f[31:23]` (R21, R234). -/
def baseTable (P : BitVec 9) : BitVec 16 :=
  BitVec.ofNat 16 ((halfTableRow (P.toNat % 256)).1 ||| (if P.getLsbD 8 then 0x8000 else 0))

/-- `ShiftTable[P]` (R21, R234). -/
def shiftTable (P : BitVec 9) : Nat := (halfTableRow (P.toNat % 256)).2

/-- The prefix of a float32. -/
def prefixOf (f : BitVec 32) : BitVec 9 := f.extractLsb' 23 9

/-- The truncated fraction bits that the table path adds, `M >> ShiftTable[P]` (R234). -/
def tableFraction (f : BitVec 32) : Nat := fracOf binary32 f >>> shiftTable (prefixOf f)

/-- The base result, `BaseTable[P] + (M >> ShiftTable[P])` (R234). -/
def tablePath (f : BitVec 32) : BitVec 16 := baseTable (prefixOf f) + BitVec.ofNat 16 (tableFraction f)

/-- The discarded fraction bits are not all zero. -/
def tableDiscards (f : BitVec 32) : Bool := fracOf binary32 f % 2 ^ shiftTable (prefixOf f) != 0

/-- The truncate correction (R239): an infinity with an even shift amount came from overflow, and saturates. -/
def tableTruncate (f : BitVec 32) : BitVec 16 :=
  let h := tablePath f
  if !isFinite binary16 h && shiftTable (prefixOf f) % 2 == 0 then h - 1 else h

/-- The ceiling correction (R239): increment a finite positive result when bits were lost, and bring a −∞ that came from
overflow back to the greatest negative finite. DEDUCED reading of the quoted prose (log 15). -/
def tableCeiling (f : BitVec 32) : BitVec 16 :=
  let h := tablePath f
  let P := (prefixOf f).toNat
  if isFinite binary16 h && !signOf binary16 h && ((P ≤ 102 && P != 0) || tableDiscards f) then h + 1
  else if h == 0xFC00 && isFinite binary32 f then h - 1
  else h

/-- The floor correction, the mirror of the ceiling for negative results (R239). DEDUCED reading (log 15). -/
def tableFloor (f : BitVec 32) : BitVec 16 :=
  let h := tablePath f
  let P := (prefixOf f).toNat - 256
  if isFinite binary16 h && signOf binary16 h && ((P ≤ 102 && P != 0) || tableDiscards f) then h + 1
  else if h == 0x7C00 && isFinite binary32 f then h - 1
  else h

end Sys2Proof.Machine
end

