-- ==== Sys2Proof/Machine/Requesters.lean ====
section
/-! DEFINITION. Several requesters sharing the block (R45, R46, R290): what it is for a sequence of commands to interleave the
requesters' own sequences, what the block does with a sequence of commands, and what it does with a schedule. `step` does not
use this file; the statements about ordering do. -/

namespace Sys2Proof.Machine

/-- A command with the number of the requester that issues it. The block never sees the number (R290). -/
abbrev Issue := Nat × Command

/-- The commands of one requester in a sequence of issues, in order. -/
def issuedBy (k : Nat) (run : List Issue) : List Command :=
  (run.filter fun x => x.1 == k).map Prod.snd

/-- R46: the sequence interleaves all commands of the requesters and keeps each requester's own order (R45). -/
def Interleaves (queues : List (List Command)) (run : List Issue) : Prop :=
  (∀ x ∈ run, x.1 < queues.length) ∧ ∀ k, issuedBy k run = queues.getD k []

/-- What the block does with one command: it is driven on the port and executed; a stop would leave the state at the port. -/
def commandResult (s : State) (c : Command) : State :=
  match executePort (s.present c) with
  | .next t => t
  | .fault _ => s.present c
  | .refused _ => s.present c

/-- What the block does with a sequence of commands. -/
def commandsResult (s : State) (cs : List Command) : State := cs.foldl commandResult s

/-- The issues that a schedule makes of the requesters' sequences, turn by turn; a turn with nothing to issue makes none. -/
def issuesOf : List Nat → List (List Command) → List Issue
  | [], _ => []
  | k :: ks, queues =>
    match queues[k]? with
    | some (c :: cs) => (k, c) :: issuesOf ks (queues.set k cs)
    | _ => issuesOf ks queues

end Sys2Proof.Machine
end

