-- ==== Sys2Proof/Safety.lean ====
section
/-! DEFINITION. What a good state and a safe run of the block are, in the terms the statements use. -/

namespace Sys2Proof.Machine

/-- The invariant of the block: CSR's reserved bits are zero (R32), ERR is not the code that is never driven (R289), and an
error outcome drives R with zero (R281). -/
def State.Inv (s : State) : Prop :=
  csrReserved s.csr = 0 ∧ s.err ≠ 3 ∧ (s.err ≠ 0 → s.r = 0)

/-- A safe step: the block answers with an outcome and is ready for the next command (R281, R284). -/
def State.Ready (s : State) : Prop := ∃ t, step s = .next t

/-- n steps one after the other, stopping at a fault or a refusal: the host's `Host.Core.run` on this machine. -/
def runSteps : Nat → State → Host.Outcome State Fault Refusal
  | 0, s => .next s
  | n + 1, s =>
    match step s with
    | .next t => runSteps n t
    | .fault f => .fault f
    | .refused e => .refused e

/-- The requesters' input: what they will send and in which order their turns come. Loading it is not a step of the block. -/
def State.withInput (s : State) (requesters : List (List Command)) (schedule : List Nat) : State :=
  { s with requesters := requesters, schedule := schedule }

/-- The states that runs from reset go through, whatever the requesters send and whatever order their turns come in. -/
inductive Reachable : State → Prop where
  | reset (requesters : List (List Command)) (schedule : List Nat) :
      Reachable (State.reset.withInput requesters schedule)
  | step {s t : State} : Reachable s → Machine.step s = .next t → Reachable t

end Sys2Proof.Machine
end

