-- ==== Sys2Proof/Certificates/Slice0/Obligations.lean ====
section
/-! DEFINITION. The statements about the model, for the provers: what each command does, the laws of the converters and the
compare engine, the encoding, the outcomes, the ordering of requesters. The first part holds the words they are written in. -/

open Sys2Proof Sys2Proof.Machine

namespace Sys2Proof.Claims

/-- The command completes with R = r: exec answers the state with R and ERR = 0 driven and everything else as it was. -/
def Completes (i : Instr) (s : State) (r : Vec256) : Prop := exec i s = .next { s with r := r, err := 0 }

/-- The command ends in the error with this code: R = 0, ERR the code, everything else as it was (R281). -/
def Raises (i : Instr) (s : State) (code : ErrCode) : Prop := exec i s = .next { s with r := 0, err := code }

/-- The integer brought within bounds: the middle one of the three. -/
def within (lo hi x : Int) : Int := max lo (min hi x)

/-- A word with this OP is the 128-bit form (every other field zero), the 256-bit form (W = 1), or reserved. -/
def TwoForms (op : BitVec 8) (i128 i256 : Instr) : Prop :=
  ∀ w : CommandWord, opField w = op →
    if w = op.setWidth 32 then decode w = .ok i128
    else if w = op.setWidth 32 + 0x00010000 then decode w = .ok i256
    else ∃ e, decode w = .error e

/-- A word with this OP is the one form (every other field zero), or reserved. -/
def OneForm (op : BitVec 8) (i : Instr) : Prop :=
  ∀ w : CommandWord, opField w = op → if w = op.setWidth 32 then decode w = .ok i else ∃ e, decode w = .error e

/-- A word with this OP is the 128-bit form with its IMM8 (bits 31:16 zero), the 256-bit form (bits 31:16 one), or reserved. -/
def TwoFormsImm (op : BitVec 8) (i128 i256 : Imm8 → Instr) : Prop :=
  ∀ w : CommandWord, opField w = op →
    if w.extractLsb' 16 16 = 0 then decode w = .ok (i128 (w.extractLsb' 8 8))
    else if w.extractLsb' 16 16 = 1 then decode w = .ok (i256 (w.extractLsb' 8 8))
    else ∃ e, decode w = .error e

/-- A word with this OP is the one form with its IMM8 (bits 31:16 zero), or reserved. -/
def OneFormImm (op : BitVec 8) (i : Imm8 → Instr) : Prop :=
  ∀ w : CommandWord, opField w = op →
    if w.extractLsb' 16 16 = 0 then decode w = .ok (i (w.extractLsb' 8 8)) else ∃ e, decode w = .error e

/-- The truth sets of R174 written out by relation: the codes whose column says T. A set depends on p[3:0] only. -/
def truth (p : Imm8) : Relation → Bool
  | .lt => [0x1, 0x2, 0x4, 0x7, 0x9, 0xA, 0xC, 0xF].contains (p.toNat % 16)
  | .eq => [0x0, 0x2, 0x5, 0x7, 0x8, 0xA, 0xD, 0xF].contains (p.toNat % 16)
  | .gt => [0x4, 0x5, 0x6, 0x7, 0xC, 0xD, 0xE, 0xF].contains (p.toNat % 16)
  | .un => [0x3, 0x4, 0x5, 0x6, 0x8, 0x9, 0xA, 0xF].contains (p.toNat % 16)

/-- A float16 NaN (R11). -/
def NaN16 (h : BitVec 16) : Prop := h.extractLsb' 10 5 = BitVec.allOnes 5 ∧ h.extractLsb' 0 10 ≠ 0

/-- A float32 NaN (R170). -/
def NaN32 (f : BitVec 32) : Prop := f.extractLsb' 23 8 = 0xFF ∧ f.extractLsb' 0 23 ≠ 0

/-- A float64 NaN (R170). -/
def NaN64 (f : BitVec 64) : Prop := f.extractLsb' 52 11 = 0x7FF ∧ f.extractLsb' 0 52 ≠ 0

/-- The value of a float that is not a NaN, the infinities at the ends of the rationals (R171). -/
def extendedVal (fmt : FloatFormat) {n : Nat} (f : BitVec n) : WithBot (WithTop ℚ) :=
  if isInf fmt f then (if signOf fmt f then ⊥ else ((⊤ : WithTop ℚ) : WithBot (WithTop ℚ)))
  else ((floatVal fmt f : WithTop ℚ) : WithBot (WithTop ℚ))

/-- The rounding mode of a two-bit code (R29, R237). -/
def modeOf (rc : BitVec 2) : RoundingMode :=
  match rc.toNat with
  | 0 => .rne
  | 1 => .rd
  | 2 => .ru
  | _ => .rz

/-- R237's choice: CSR[14:13] when IMM8[2] = 1, otherwise IMM8[1:0]. -/
def selectedMode (sel : Imm8) (csr : CsrWord) : RoundingMode :=
  modeOf (if sel.getLsbD 2 then csr.extractLsb' 13 2 else sel.extractLsb' 0 2)

/-- One float16 ulp at the magnitude of a finite float32 (R230's `2^j`, R241). -/
def halfUlpAt (x : BitVec 32) : ℚ := (2 : ℚ) ^ (max ((expOf binary32 x : ℤ) - 127) (-14) - 10)

/-- The command has the same outcome in two states. -/
def SameOutcome (i : Instr) (s t : State) : Prop :=
  ∃ s' t', exec i s = .next s' ∧ exec i t = .next t' ∧ s'.r = t'.r ∧ s'.err = t'.err ∧ s'.csr = t'.csr

/-- The lane-wise operations of R63, each as its 128-bit and its 256-bit form. -/
def laneWisePairs (p : Imm8) : List (Instr × Instr) :=
  [(.paddsb128, .paddsb256), (.paddsw128, .paddsw256), (.paddusb128, .paddusb256), (.paddusw128, .paddusw256),
   (.psubsb128, .psubsb256), (.psubsw128, .psubsw256), (.psubusb128, .psubusb256), (.psubusw128, .psubusw256),
   (.packsswb128, .packsswb256), (.packuswb128, .packuswb256), (.packssdw128, .packssdw256), (.packusdw128, .packusdw256),
   (.punpcklbw128, .punpcklbw256), (.punpckhbw128, .punpckhbw256), (.punpcklwd128, .punpcklwd256), (.punpckhwd128, .punpckhwd256),
   (.punpckldq128, .punpckldq256), (.punpckhdq128, .punpckhdq256), (.punpcklqdq128, .punpcklqdq256), (.punpckhqdq128, .punpckhqdq256),
   (.cmpps128 p, .cmpps256 p), (.cmppd128 p, .cmppd256 p)]

/-- R280's causes of InvalidArgument, read from a command word that is not reserved and its operand A. -/
def illegalArgument (w : CommandWord) (a : Vec256) : Bool :=
  (([0x30, 0x31, 0x32, 0x33] : List (BitVec 8)).contains (opField w) && decide (0x1F < (immField w).toNat))
  || (opField w == 0x40 && (immField w).extractLsb' 4 4 != 0)
  || (opField w == 0x51 && a.extractLsb' 16 16 != 0)

end Sys2Proof.Claims

open Sys2Proof.Claims

/-- PADDSB and PADDSW complete, in both widths, with the saturated sum of every lane (R103, R104). PADDSB (8-bit lanes)
and PADDSW (16-bit lanes), 128- and 256-bit, in every state: exec answers a next state in which R holds, lane by lane,
the exact signed sum A + B clamped to [-128, 127] or [-32768, 32767], R[255:128] = 0 for the 128-bit forms, ERR = 0,
and everything else (CSR, the input ports, the requesters and their schedule) is unchanged; a word with either OP is
one of its two forms or reserved. -/
def Obligations.PaddsbAndPaddswSaturateEveryLane : Prop :=
    TwoForms 0x10 .paddsb128 .paddsb256 ∧ TwoForms 0x11 .paddsw128 .paddsw256 ∧
    ∀ s : State,
      (∃ r, Completes .paddsb128 s r ∧
        (∀ i, i < 16 → lane 8 i r = BitVec.ofInt 8 (within (-128) 127 ((lane 8 i s.a).toInt + (lane 8 i s.b).toInt))) ∧
        high128 r = 0) ∧
      (∃ r, Completes .paddsb256 s r ∧
        (∀ i, i < 32 → lane 8 i r = BitVec.ofInt 8 (within (-128) 127 ((lane 8 i s.a).toInt + (lane 8 i s.b).toInt)))) ∧
      (∃ r, Completes .paddsw128 s r ∧
        (∀ i, i < 8 → lane 16 i r = BitVec.ofInt 16 (within (-32768) 32767 ((lane 16 i s.a).toInt + (lane 16 i s.b).toInt))) ∧
        high128 r = 0) ∧
      (∃ r, Completes .paddsw256 s r ∧
        (∀ i, i < 16 → lane 16 i r = BitVec.ofInt 16 (within (-32768) 32767 ((lane 16 i s.a).toInt + (lane 16 i s.b).toInt))))

/-- PADDUSB and PADDUSW complete, in both widths, with the saturated sum of every lane (R105, R106). PADDUSB (8-bit lanes)
and PADDUSW (16-bit lanes), 128- and 256-bit, in every state: exec answers a next state in which R holds, lane by
lane, the exact unsigned sum A + B clamped to [0, 255] or [0, 65535], R[255:128] = 0 for the 128-bit forms, ERR = 0,
and everything else (CSR, the input ports, the requesters and their schedule) is unchanged; a word with either OP is
one of its two forms or reserved. -/
def Obligations.PaddusbAndPadduswSaturateEveryLane : Prop :=
    TwoForms 0x12 .paddusb128 .paddusb256 ∧ TwoForms 0x13 .paddusw128 .paddusw256 ∧
    ∀ s : State,
      (∃ r, Completes .paddusb128 s r ∧
        (∀ i, i < 16 → lane 8 i r = BitVec.ofInt 8 (within 0 255 (((lane 8 i s.a).toNat : Int) + ((lane 8 i s.b).toNat : Int)))) ∧
        high128 r = 0) ∧
      (∃ r, Completes .paddusb256 s r ∧
        (∀ i, i < 32 → lane 8 i r = BitVec.ofInt 8 (within 0 255 (((lane 8 i s.a).toNat : Int) + ((lane 8 i s.b).toNat : Int))))) ∧
      (∃ r, Completes .paddusw128 s r ∧
        (∀ i, i < 8 → lane 16 i r = BitVec.ofInt 16 (within 0 65535 (((lane 16 i s.a).toNat : Int) + ((lane 16 i s.b).toNat : Int)))) ∧
        high128 r = 0) ∧
      (∃ r, Completes .paddusw256 s r ∧
        (∀ i, i < 16 → lane 16 i r = BitVec.ofInt 16 (within 0 65535 (((lane 16 i s.a).toNat : Int) + ((lane 16 i s.b).toNat : Int)))))

/-- PSUBSB and PSUBSW complete, in both widths, with the saturated difference of every lane (R107, R108). PSUBSB (8-bit
lanes) and PSUBSW (16-bit lanes), 128- and 256-bit, in every state: exec answers a next state in which R holds, lane
by lane, the exact signed difference A - B clamped to [-128, 127] or [-32768, 32767], R[255:128] = 0 for the 128-bit
forms, ERR = 0, and everything else (CSR, the input ports, the requesters and their schedule) is unchanged; a word
with either OP is one of its two forms or reserved. -/
def Obligations.PsubsbAndPsubswSaturateEveryLane : Prop :=
    TwoForms 0x14 .psubsb128 .psubsb256 ∧ TwoForms 0x15 .psubsw128 .psubsw256 ∧
    ∀ s : State,
      (∃ r, Completes .psubsb128 s r ∧
        (∀ i, i < 16 → lane 8 i r = BitVec.ofInt 8 (within (-128) 127 ((lane 8 i s.a).toInt - (lane 8 i s.b).toInt))) ∧
        high128 r = 0) ∧
      (∃ r, Completes .psubsb256 s r ∧
        (∀ i, i < 32 → lane 8 i r = BitVec.ofInt 8 (within (-128) 127 ((lane 8 i s.a).toInt - (lane 8 i s.b).toInt)))) ∧
      (∃ r, Completes .psubsw128 s r ∧
        (∀ i, i < 8 → lane 16 i r = BitVec.ofInt 16 (within (-32768) 32767 ((lane 16 i s.a).toInt - (lane 16 i s.b).toInt))) ∧
        high128 r = 0) ∧
      (∃ r, Completes .psubsw256 s r ∧
        (∀ i, i < 16 → lane 16 i r = BitVec.ofInt 16 (within (-32768) 32767 ((lane 16 i s.a).toInt - (lane 16 i s.b).toInt))))

/-- PSUBUSB and PSUBUSW complete, in both widths, with the saturated difference of every lane (R109, R110). PSUBUSB (8-bit
lanes) and PSUBUSW (16-bit lanes), 128- and 256-bit, in every state: exec answers a next state in which R holds, lane
by lane, the exact unsigned difference A - B clamped to [0, 255] or [0, 65535], R[255:128] = 0 for the 128-bit forms,
ERR = 0, and everything else (CSR, the input ports, the requesters and their schedule) is unchanged; a word with
either OP is one of its two forms or reserved. -/
def Obligations.PsubusbAndPsubuswSaturateEveryLane : Prop :=
    TwoForms 0x16 .psubusb128 .psubusb256 ∧ TwoForms 0x17 .psubusw128 .psubusw256 ∧
    ∀ s : State,
      (∃ r, Completes .psubusb128 s r ∧
        (∀ i, i < 16 → lane 8 i r = BitVec.ofInt 8 (within 0 255 (((lane 8 i s.a).toNat : Int) - ((lane 8 i s.b).toNat : Int)))) ∧
        high128 r = 0) ∧
      (∃ r, Completes .psubusb256 s r ∧
        (∀ i, i < 32 → lane 8 i r = BitVec.ofInt 8 (within 0 255 (((lane 8 i s.a).toNat : Int) - ((lane 8 i s.b).toNat : Int))))) ∧
      (∃ r, Completes .psubusw128 s r ∧
        (∀ i, i < 8 → lane 16 i r = BitVec.ofInt 16 (within 0 65535 (((lane 16 i s.a).toNat : Int) - ((lane 16 i s.b).toNat : Int)))) ∧
        high128 r = 0) ∧
      (∃ r, Completes .psubusw256 s r ∧
        (∀ i, i < 16 → lane 16 i r = BitVec.ofInt 16 (within 0 65535 (((lane 16 i s.a).toNat : Int) - ((lane 16 i s.b).toNat : Int)))))

/-- PACKSSWB and PACKUSWB complete with A's narrowed lanes low and B's high in each 128-bit half (R131, R132). PACKSSWB
and PACKUSWB, 128- and 256-bit, in every state: exec answers a next state in which, in each 128-bit half of R, result
lane i is A's signed 16-bit lane clamped to [-128, 127] for PACKSSWB and [0, 255] for PACKUSWB, and result lane 8+i is
B's; R[255:128] = 0 for the 128-bit forms, ERR = 0, and everything else is unchanged; a word with either OP is one of
its two forms or reserved. -/
def Obligations.PacksswbAndPackuswbNarrowEachHalf : Prop :=
    TwoForms 0x20 .packsswb128 .packsswb256 ∧ TwoForms 0x21 .packuswb128 .packuswb256 ∧
    ∀ s : State,
      (∃ r, Completes .packsswb128 s r ∧
        (∀ h i, h < 1 → i < 8 →
          lane 8 (16 * h + i) r = BitVec.ofInt 8 (within (-128) 127 (lane 16 (8 * h + i) s.a).toInt) ∧
          lane 8 (16 * h + 8 + i) r = BitVec.ofInt 8 (within (-128) 127 (lane 16 (8 * h + i) s.b).toInt)) ∧
        high128 r = 0) ∧
      (∃ r, Completes .packsswb256 s r ∧
        (∀ h i, h < 2 → i < 8 →
          lane 8 (16 * h + i) r = BitVec.ofInt 8 (within (-128) 127 (lane 16 (8 * h + i) s.a).toInt) ∧
          lane 8 (16 * h + 8 + i) r = BitVec.ofInt 8 (within (-128) 127 (lane 16 (8 * h + i) s.b).toInt))) ∧
      (∃ r, Completes .packuswb128 s r ∧
        (∀ h i, h < 1 → i < 8 →
          lane 8 (16 * h + i) r = BitVec.ofInt 8 (within 0 255 (lane 16 (8 * h + i) s.a).toInt) ∧
          lane 8 (16 * h + 8 + i) r = BitVec.ofInt 8 (within 0 255 (lane 16 (8 * h + i) s.b).toInt)) ∧
        high128 r = 0) ∧
      (∃ r, Completes .packuswb256 s r ∧
        (∀ h i, h < 2 → i < 8 →
          lane 8 (16 * h + i) r = BitVec.ofInt 8 (within 0 255 (lane 16 (8 * h + i) s.a).toInt) ∧
          lane 8 (16 * h + 8 + i) r = BitVec.ofInt 8 (within 0 255 (lane 16 (8 * h + i) s.b).toInt)))

/-- PACKSSDW and PACKUSDW complete with A's narrowed lanes low and B's high in each 128-bit half (R133, R134). PACKSSDW
and PACKUSDW, 128- and 256-bit, in every state: exec answers a next state in which, in each 128-bit half of R, result
lane i is A's signed 32-bit lane clamped to [-32768, 32767] for PACKSSDW and [0, 65535] for PACKUSDW, and result lane
4+i is B's; R[255:128] = 0 for the 128-bit forms, ERR = 0, and everything else is unchanged; a word with either OP is
one of its two forms or reserved. -/
def Obligations.PackssdwAndPackusdwNarrowEachHalf : Prop :=
    TwoForms 0x22 .packssdw128 .packssdw256 ∧ TwoForms 0x23 .packusdw128 .packusdw256 ∧
    ∀ s : State,
      (∃ r, Completes .packssdw128 s r ∧
        (∀ h i, h < 1 → i < 4 →
          lane 16 (8 * h + i) r = BitVec.ofInt 16 (within (-32768) 32767 (lane 32 (4 * h + i) s.a).toInt) ∧
          lane 16 (8 * h + 4 + i) r = BitVec.ofInt 16 (within (-32768) 32767 (lane 32 (4 * h + i) s.b).toInt)) ∧
        high128 r = 0) ∧
      (∃ r, Completes .packssdw256 s r ∧
        (∀ h i, h < 2 → i < 4 →
          lane 16 (8 * h + i) r = BitVec.ofInt 16 (within (-32768) 32767 (lane 32 (4 * h + i) s.a).toInt) ∧
          lane 16 (8 * h + 4 + i) r = BitVec.ofInt 16 (within (-32768) 32767 (lane 32 (4 * h + i) s.b).toInt))) ∧
      (∃ r, Completes .packusdw128 s r ∧
        (∀ h i, h < 1 → i < 4 →
          lane 16 (8 * h + i) r = BitVec.ofInt 16 (within 0 65535 (lane 32 (4 * h + i) s.a).toInt) ∧
          lane 16 (8 * h + 4 + i) r = BitVec.ofInt 16 (within 0 65535 (lane 32 (4 * h + i) s.b).toInt)) ∧
        high128 r = 0) ∧
      (∃ r, Completes .packusdw256 s r ∧
        (∀ h i, h < 2 → i < 4 →
          lane 16 (8 * h + i) r = BitVec.ofInt 16 (within 0 65535 (lane 32 (4 * h + i) s.a).toInt) ∧
          lane 16 (8 * h + 4 + i) r = BitVec.ofInt 16 (within 0 65535 (lane 32 (4 * h + i) s.b).toInt)))

/-- PUNPCKLBW and PUNPCKHBW complete with A's and B's bytes in turn (R141, R142). PUNPCKLBW and PUNPCKHBW, 128- and
256-bit, in every state: exec answers a next state in which each 128-bit half of R holds the low (L) or high (H) 8
8-bit lanes of that half of A and B, A's lane in the even place and B's in the odd one, R[255:128] = 0 for the 128-bit
forms, ERR = 0, and everything else is unchanged; a word with either OP is one of its two forms or reserved. -/
def Obligations.PunpckBwInterleavesLowAndHigh : Prop :=
    TwoForms 0x28 .punpcklbw128 .punpcklbw256 ∧ TwoForms 0x29 .punpckhbw128 .punpckhbw256 ∧
    ∀ s : State,
      (∃ r, Completes .punpcklbw128 s r ∧
        (∀ h i, h < 1 → i < 8 →
          lane 8 (16 * h + 2 * i) r = lane 8 (16 * h + i) s.a ∧
          lane 8 (16 * h + 2 * i + 1) r = lane 8 (16 * h + i) s.b) ∧
        high128 r = 0) ∧
      (∃ r, Completes .punpcklbw256 s r ∧
        (∀ h i, h < 2 → i < 8 →
          lane 8 (16 * h + 2 * i) r = lane 8 (16 * h + i) s.a ∧
          lane 8 (16 * h + 2 * i + 1) r = lane 8 (16 * h + i) s.b)) ∧
      (∃ r, Completes .punpckhbw128 s r ∧
        (∀ h i, h < 1 → i < 8 →
          lane 8 (16 * h + 2 * i) r = lane 8 (16 * h + 8 + i) s.a ∧
          lane 8 (16 * h + 2 * i + 1) r = lane 8 (16 * h + 8 + i) s.b) ∧
        high128 r = 0) ∧
      (∃ r, Completes .punpckhbw256 s r ∧
        (∀ h i, h < 2 → i < 8 →
          lane 8 (16 * h + 2 * i) r = lane 8 (16 * h + 8 + i) s.a ∧
          lane 8 (16 * h + 2 * i + 1) r = lane 8 (16 * h + 8 + i) s.b))

/-- PUNPCKLWD and PUNPCKHWD complete with A's and B's words in turn (R143, R144). PUNPCKLWD and PUNPCKHWD, 128- and
256-bit, in every state: exec answers a next state in which each 128-bit half of R holds the low (L) or high (H) 4
16-bit lanes of that half of A and B, A's lane in the even place and B's in the odd one, R[255:128] = 0 for the
128-bit forms, ERR = 0, and everything else is unchanged; a word with either OP is one of its two forms or reserved. -/
def Obligations.PunpckWdInterleavesLowAndHigh : Prop :=
    TwoForms 0x2A .punpcklwd128 .punpcklwd256 ∧ TwoForms 0x2B .punpckhwd128 .punpckhwd256 ∧
    ∀ s : State,
      (∃ r, Completes .punpcklwd128 s r ∧
        (∀ h i, h < 1 → i < 4 →
          lane 16 (8 * h + 2 * i) r = lane 16 (8 * h + i) s.a ∧
          lane 16 (8 * h + 2 * i + 1) r = lane 16 (8 * h + i) s.b) ∧
        high128 r = 0) ∧
      (∃ r, Completes .punpcklwd256 s r ∧
        (∀ h i, h < 2 → i < 4 →
          lane 16 (8 * h + 2 * i) r = lane 16 (8 * h + i) s.a ∧
          lane 16 (8 * h + 2 * i + 1) r = lane 16 (8 * h + i) s.b)) ∧
      (∃ r, Completes .punpckhwd128 s r ∧
        (∀ h i, h < 1 → i < 4 →
          lane 16 (8 * h + 2 * i) r = lane 16 (8 * h + 4 + i) s.a ∧
          lane 16 (8 * h + 2 * i + 1) r = lane 16 (8 * h + 4 + i) s.b) ∧
        high128 r = 0) ∧
      (∃ r, Completes .punpckhwd256 s r ∧
        (∀ h i, h < 2 → i < 4 →
          lane 16 (8 * h + 2 * i) r = lane 16 (8 * h + 4 + i) s.a ∧
          lane 16 (8 * h + 2 * i + 1) r = lane 16 (8 * h + 4 + i) s.b))

/-- PUNPCKLDQ and PUNPCKHDQ complete with A's and B's doublewords in turn (R145, R146). PUNPCKLDQ and PUNPCKHDQ, 128- and
256-bit, in every state: exec answers a next state in which each 128-bit half of R holds the low (L) or high (H) 2
32-bit lanes of that half of A and B, A's lane in the even place and B's in the odd one, R[255:128] = 0 for the
128-bit forms, ERR = 0, and everything else is unchanged; a word with either OP is one of its two forms or reserved. -/
def Obligations.PunpckDqInterleavesLowAndHigh : Prop :=
    TwoForms 0x2C .punpckldq128 .punpckldq256 ∧ TwoForms 0x2D .punpckhdq128 .punpckhdq256 ∧
    ∀ s : State,
      (∃ r, Completes .punpckldq128 s r ∧
        (∀ h i, h < 1 → i < 2 →
          lane 32 (4 * h + 2 * i) r = lane 32 (4 * h + i) s.a ∧
          lane 32 (4 * h + 2 * i + 1) r = lane 32 (4 * h + i) s.b) ∧
        high128 r = 0) ∧
      (∃ r, Completes .punpckldq256 s r ∧
        (∀ h i, h < 2 → i < 2 →
          lane 32 (4 * h + 2 * i) r = lane 32 (4 * h + i) s.a ∧
          lane 32 (4 * h + 2 * i + 1) r = lane 32 (4 * h + i) s.b)) ∧
      (∃ r, Completes .punpckhdq128 s r ∧
        (∀ h i, h < 1 → i < 2 →
          lane 32 (4 * h + 2 * i) r = lane 32 (4 * h + 2 + i) s.a ∧
          lane 32 (4 * h + 2 * i + 1) r = lane 32 (4 * h + 2 + i) s.b) ∧
        high128 r = 0) ∧
      (∃ r, Completes .punpckhdq256 s r ∧
        (∀ h i, h < 2 → i < 2 →
          lane 32 (4 * h + 2 * i) r = lane 32 (4 * h + 2 + i) s.a ∧
          lane 32 (4 * h + 2 * i + 1) r = lane 32 (4 * h + 2 + i) s.b))

/-- PUNPCKLQDQ and PUNPCKHQDQ complete with A's and B's quadwords in turn (R147, R148). PUNPCKLQDQ and PUNPCKHQDQ, 128-
and 256-bit, in every state: exec answers a next state in which each 128-bit half of R holds the low (L) or high (H) 1
64-bit lanes of that half of A and B, A's lane in the even place and B's in the odd one, R[255:128] = 0 for the
128-bit forms, ERR = 0, and everything else is unchanged; a word with either OP is one of its two forms or reserved. -/
def Obligations.PunpckQdqInterleavesLowAndHigh : Prop :=
    TwoForms 0x2E .punpcklqdq128 .punpcklqdq256 ∧ TwoForms 0x2F .punpckhqdq128 .punpckhqdq256 ∧
    ∀ s : State,
      (∃ r, Completes .punpcklqdq128 s r ∧
        (∀ h i, h < 1 → i < 1 →
          lane 64 (2 * h + 2 * i) r = lane 64 (2 * h + i) s.a ∧
          lane 64 (2 * h + 2 * i + 1) r = lane 64 (2 * h + i) s.b) ∧
        high128 r = 0) ∧
      (∃ r, Completes .punpcklqdq256 s r ∧
        (∀ h i, h < 2 → i < 1 →
          lane 64 (2 * h + 2 * i) r = lane 64 (2 * h + i) s.a ∧
          lane 64 (2 * h + 2 * i + 1) r = lane 64 (2 * h + i) s.b)) ∧
      (∃ r, Completes .punpckhqdq128 s r ∧
        (∀ h i, h < 1 → i < 1 →
          lane 64 (2 * h + 2 * i) r = lane 64 (2 * h + 1 + i) s.a ∧
          lane 64 (2 * h + 2 * i + 1) r = lane 64 (2 * h + 1 + i) s.b) ∧
        high128 r = 0) ∧
      (∃ r, Completes .punpckhqdq256 s r ∧
        (∀ h i, h < 2 → i < 1 →
          lane 64 (2 * h + 2 * i) r = lane 64 (2 * h + 1 + i) s.a ∧
          lane 64 (2 * h + 2 * i + 1) r = lane 64 (2 * h + 1 + i) s.b))

/-- CMPPS completes with all-ones or all-zeros lanes by its predicate, or raises InvalidArgument (R179). CMPPS.128 and
CMPPS.256, in every state and for every IMM8 = p: for p at most 0x1F exec answers a next state in which every float
lane of R is all ones when the relation of A's and B's lane is in the set of code p (R174) and all zeros otherwise,
R[255:128] = 0 for the 128-bit form, ERR = 0; for p above 0x1F the next state has R = 0, ERR = 1; everything else is
unchanged. A word with this OP is one of the two forms or reserved. -/
def Obligations.CmppsMasksEveryLane : Prop :=
    TwoFormsImm 0x30 Instr.cmpps128 Instr.cmpps256 ∧
    ∀ (s : State) (p : Imm8),
      if p.toNat ≤ 0x1F then
        (∃ r, Completes (.cmpps128 p) s r ∧
          (∀ i, i < 4 → lane 32 i r = (if truth p (rel binary32 (lane 32 i s.a) (lane 32 i s.b)) then BitVec.allOnes 32 else 0)) ∧
          high128 r = 0) ∧
        (∃ r, Completes (.cmpps256 p) s r ∧
          ∀ i, i < 8 → lane 32 i r = (if truth p (rel binary32 (lane 32 i s.a) (lane 32 i s.b)) then BitVec.allOnes 32 else 0))
      else Raises (.cmpps128 p) s 1 ∧ Raises (.cmpps256 p) s 1

/-- CMPPD completes with all-ones or all-zeros lanes by its predicate, or raises InvalidArgument (R180). CMPPD.128 and
CMPPD.256, in every state and for every IMM8 = p: for p at most 0x1F exec answers a next state in which every float
lane of R is all ones when the relation of A's and B's lane is in the set of code p (R174) and all zeros otherwise,
R[255:128] = 0 for the 128-bit form, ERR = 0; for p above 0x1F the next state has R = 0, ERR = 1; everything else is
unchanged. A word with this OP is one of the two forms or reserved. -/
def Obligations.CmppdMasksEveryLane : Prop :=
    TwoFormsImm 0x31 Instr.cmppd128 Instr.cmppd256 ∧
    ∀ (s : State) (p : Imm8),
      if p.toNat ≤ 0x1F then
        (∃ r, Completes (.cmppd128 p) s r ∧
          (∀ i, i < 2 → lane 64 i r = (if truth p (rel binary64 (lane 64 i s.a) (lane 64 i s.b)) then BitVec.allOnes 64 else 0)) ∧
          high128 r = 0) ∧
        (∃ r, Completes (.cmppd256 p) s r ∧
          ∀ i, i < 4 → lane 64 i r = (if truth p (rel binary64 (lane 64 i s.a) (lane 64 i s.b)) then BitVec.allOnes 64 else 0))
      else Raises (.cmppd128 p) s 1 ∧ Raises (.cmppd256 p) s 1

/-- CMPSS completes with the mask in lane 0 and the rest of A above it, or raises InvalidArgument (R181). CMPSS, in every
state and for every IMM8 = p: for p at most 0x1F exec answers a next state in which lane 0 of R is the mask of code p
on lane 0 of A and B, R[127:32] = A[127:32], R[255:128] = 0, ERR = 0; for p above 0x1F the next state has R = 0, ERR =
1; everything else is unchanged. A word with this OP and W = 1 is reserved. -/
def Obligations.CmpssSplicesLowLane : Prop :=
    OneFormImm 0x32 Instr.cmpss ∧
    ∀ (s : State) (p : Imm8),
      if p.toNat ≤ 0x1F then
        ∃ r, Completes (.cmpss p) s r ∧
          lane 32 0 r = (if truth p (rel binary32 (lane 32 0 s.a) (lane 32 0 s.b)) then BitVec.allOnes 32 else 0) ∧
          r.extractLsb' 32 96 = s.a.extractLsb' 32 96 ∧
          high128 r = 0
      else Raises (.cmpss p) s 1

/-- CMPSD completes with the mask in lane 0 and the rest of A above it, or raises InvalidArgument (R182). CMPSD, in every
state and for every IMM8 = p: for p at most 0x1F exec answers a next state in which lane 0 of R is the mask of code p
on lane 0 of A and B, R[127:64] = A[127:64], R[255:128] = 0, ERR = 0; for p above 0x1F the next state has R = 0, ERR =
1; everything else is unchanged. A word with this OP and W = 1 is reserved. -/
def Obligations.CmpsdSplicesLowLane : Prop :=
    OneFormImm 0x33 Instr.cmpsd ∧
    ∀ (s : State) (p : Imm8),
      if p.toNat ≤ 0x1F then
        ∃ r, Completes (.cmpsd p) s r ∧
          lane 64 0 r = (if truth p (rel binary64 (lane 64 0 s.a) (lane 64 0 s.b)) then BitVec.allOnes 64 else 0) ∧
          r.extractLsb' 64 64 = s.a.extractLsb' 64 64 ∧
          high128 r = 0
      else Raises (.cmpsd p) s 1

/-- The relation of two lanes is unordered for NaNs and otherwise the order of their exact values (R170, R171). For
float32 and float64 lanes: rel is UN exactly when either lane is a NaN (exponent all ones, fraction not zero); when
neither is, rel is LT, EQ or GT exactly as the exact rational values compare, with the infinities at the ends. -/
def Obligations.RelationFollowsExactValues : Prop :=
    (∀ a b : BitVec 32,
      (rel binary32 a b = .un ↔ NaN32 a ∨ NaN32 b) ∧
      (¬ NaN32 a → ¬ NaN32 b →
        (rel binary32 a b = .lt ↔ extendedVal binary32 a < extendedVal binary32 b) ∧
        (rel binary32 a b = .eq ↔ extendedVal binary32 a = extendedVal binary32 b) ∧
        (rel binary32 a b = .gt ↔ extendedVal binary32 b < extendedVal binary32 a))) ∧
    ∀ a b : BitVec 64,
      (rel binary64 a b = .un ↔ NaN64 a ∨ NaN64 b) ∧
      (¬ NaN64 a → ¬ NaN64 b →
        (rel binary64 a b = .lt ↔ extendedVal binary64 a < extendedVal binary64 b) ∧
        (rel binary64 a b = .eq ↔ extendedVal binary64 a = extendedVal binary64 b) ∧
        (rel binary64 a b = .gt ↔ extendedVal binary64 b < extendedVal binary64 a))

/-- The composition of each predicate code from the eight primitives agrees with the table (R172, R173, R174, R176). For
float32 and float64 lanes and every row of the predicate table: the composition of the row's name from the eight
primitives, with the greater-than family as swapped operands, is true exactly when the row is true on the relation of
the lanes, and the row stands at the name's code. -/
def Obligations.CompositionsAgreeWithTable : Prop :=
    (∀ row ∈ predicateTable, predicateOf row.name.code = some row) ∧
    (∀ row ∈ predicateTable, ∀ a b : BitVec 32, composed binary32 row.name a b = row.onRelation (rel binary32 a b)) ∧
    ∀ row ∈ predicateTable, ∀ a b : BitVec 64, composed binary64 row.name a b = row.onRelation (rel binary64 a b)

/-- Codes p and p + 0x10 give the same outcome in every compare command (R175). For every state and every code p below
0x10, each of the six compare instructions answers the same outcome under p and under p + 0x10, a next state whose CSR
is unchanged. -/
def Obligations.SignallingMarkChangesNothing : Prop :=
    ∀ (s : State) (p : Imm8), p.toNat < 0x10 →
      exec (.cmpps128 p) s = exec (.cmpps128 (p + 0x10)) s ∧ exec (.cmpps256 p) s = exec (.cmpps256 (p + 0x10)) s ∧
      exec (.cmppd128 p) s = exec (.cmppd128 (p + 0x10)) s ∧ exec (.cmppd256 p) s = exec (.cmppd256 (p + 0x10)) s ∧
      exec (.cmpss p) s = exec (.cmpss (p + 0x10)) s ∧ exec (.cmpsd p) s = exec (.cmpsd (p + 0x10)) s ∧
      ∀ q, q = p ∨ q = p + 0x10 →
        ∀ i ∈ [Instr.cmpps128 q, .cmpps256 q, .cmppd128 q, .cmppd256 q, .cmpss q, .cmpsd q],
          ∃ t, exec i s = .next t ∧ t.csr = s.csr

/-- VCVTPH2PS completes with H2F of every half lane of A (R213). VCVTPH2PS.128 and .256, in every state: exec answers a
next state in which float lane i of R is H2F of half lane i of A (4 or 8 lanes), R[255:128] = 0 for the 128-bit form,
ERR = 0, and everything else is unchanged; a word with this OP is one of the two forms or reserved. -/
def Obligations.Vcvtph2psConvertsEveryLane : Prop :=
    TwoForms 0x41 .vcvtph2ps128 .vcvtph2ps256 ∧
    ∀ s : State,
      (∃ r, Completes .vcvtph2ps128 s r ∧ (∀ i, i < 4 → lane 32 i r = h2f (lane 16 i s.a)) ∧ high128 r = 0) ∧
      (∃ r, Completes .vcvtph2ps256 s r ∧ ∀ i, i < 8 → lane 32 i r = h2f (lane 16 i s.a))

/-- H2F keeps the sign and the exact value of every float16 that is not a NaN (R210, R211). For every float16 h that is
not a NaN: the sign of H2F(h) is h's; if h is an infinity so is H2F(h), with zero fraction; otherwise H2F(h) is finite
and val(H2F(h)) = val(h). -/
def Obligations.HalfDecodeIsExact : Prop :=
    ∀ h : BitVec 16, ¬ NaN16 h →
      signOf binary32 (h2f h) = signOf binary16 h ∧
      (if isInf binary16 h then isInf binary32 (h2f h)
       else isFinite binary32 (h2f h)) = true ∧
      (isInf binary16 h = false → floatVal binary32 (h2f h) = floatVal binary16 h)

/-- H2F of a NaN keeps the sign and moves the payload to bits 22:13 without quieting (R212). For every float16 NaN h:
H2F(h) has h's sign, exponent all ones, h's ten fraction bits in bits 22:13 and zeros in bits 12:0. -/
def Obligations.HalfDecodeKeepsNaNPayload : Prop :=
    ∀ h : BitVec 16, NaN16 h →
      h2f h = h.extractLsb' 15 1 ++ BitVec.allOnes 8 ++ h.extractLsb' 0 10 ++ 0#13

/-- VCVTPS2PH completes with F2H of every float lane under the selected mode, or raises InvalidArgument (R237, R240).
VCVTPS2PH.128 and .256, in every state and for every IMM8: when IMM8[7:4] = 0, exec answers a next state in which half
lane i of R is F2H of float lane i of A (4 or 8 lanes) in the mode of CSR[14:13] if IMM8[2] = 1 and of IMM8[1:0]
otherwise (00 RNE, 01 RD, 10 RU, 11 RZ), the rest of R is zero and ERR = 0; otherwise R = 0, ERR = 1; everything else,
CSR included, is unchanged. A word with this OP is one of the two forms or reserved. -/
def Obligations.Vcvtps2phConvertsEveryLane : Prop :=
    TwoFormsImm 0x40 Instr.vcvtps2ph128 Instr.vcvtps2ph256 ∧
    ∀ (s : State) (sel : Imm8),
      if sel.toNat < 0x10 then
        (∃ r, Completes (.vcvtps2ph128 sel) s r ∧
          (∀ i, i < 4 → lane 16 i r = f2h (lane 32 i s.a) (selectedMode sel s.csr)) ∧
          r.extractLsb' 64 192 = 0) ∧
        (∃ r, Completes (.vcvtps2ph256 sel) s r ∧
          (∀ i, i < 8 → lane 16 i r = f2h (lane 32 i s.a) (selectedMode sel s.csr)) ∧
          r.extractLsb' 128 128 = 0)
      else Raises (.vcvtps2ph128 sel) s 1 ∧ Raises (.vcvtps2ph256 sel) s 1

/-- F2H of zeros, infinities and NaNs is the same in every mode (R231). In every mode: +0 and -0 give 0x0000 and 0x8000,
+infinity and -infinity give 0x7C00 and 0xFC00, and a NaN gives its sign, an all-ones exponent, a set quiet bit and
its top payload bits M >> 13 or-ed below, which is a NaN. -/
def Obligations.HalfEncodeSpecialInputs : Prop :=
    ∀ mode : RoundingMode,
      f2h 0x00000000 mode = 0x0000 ∧ f2h 0x80000000 mode = 0x8000 ∧
      f2h 0x7F800000 mode = 0x7C00 ∧ f2h 0xFF800000 mode = 0xFC00 ∧
      ∀ f : BitVec 32, NaN32 f →
        f2h f mode = f.extractLsb' 31 1 ++ (0x7E00#15 ||| (f.extractLsb' 13 10).setWidth 15) ∧ NaN16 (f2h f mode)

/-- F2H converts float32 denormals by value, not flushed (R232). A positive float32 denormal gives 0x0000 in RNE, RZ and
RD and 0x0001 in RU; a negative one gives 0x8000 in RNE, RZ and RU and 0x8001 in RD. (CSR's DAZ and FTZ cannot matter:
F2H takes no CSR.) -/
def Obligations.HalfEncodeDenormalInputs : Prop :=
    ∀ f : BitVec 32, f.extractLsb' 23 8 = 0 → f.extractLsb' 0 23 ≠ 0 →
      (f.getLsbD 31 = false →
        f2h f .rne = 0x0000 ∧ f2h f .rz = 0x0000 ∧ f2h f .rd = 0x0000 ∧ f2h f .ru = 0x0001) ∧
      (f.getLsbD 31 = true →
        f2h f .rne = 0x8000 ∧ f2h f .rz = 0x8000 ∧ f2h f .ru = 0x8000 ∧ f2h f .rd = 0x8001)

/-- F2H beyond the float16 range gives infinity or the largest finite by the mode (R235). For every finite float32 f: if
|val f| is at least 65520, RNE gives the infinity of f's sign; if val f > 65504, RU gives +infinity and RZ and RD give
0x7BFF; if val f < -65504, RD gives -infinity and RZ and RU give 0xFBFF. -/
def Obligations.HalfEncodeOverflow : Prop :=
    ∀ f : BitVec 32, isFinite binary32 f = true →
      (65520 ≤ floatVal binary32 f → f2h f .rne = 0x7C00) ∧
      (floatVal binary32 f ≤ -65520 → f2h f .rne = 0xFC00) ∧
      (65504 < floatVal binary32 f → f2h f .rz = 0x7BFF ∧ f2h f .ru = 0x7C00 ∧ f2h f .rd = 0x7BFF) ∧
      (floatVal binary32 f < -65504 → f2h f .rz = 0xFBFF ∧ f2h f .ru = 0xFBFF ∧ f2h f .rd = 0xFC00)

/-- F2H in RD, RU and RZ is the closest float16 on the side the mode names (R230, R233, R235). For every finite float32 f.
RD: if some finite float16 is at most val f, the result is finite, at most val f, and no finite float16 lies between;
if none is, the result is -infinity. RU: the mirror, with +infinity. RZ: the result is finite, |val result| is at most
|val f|, and no finite float16 of magnitude at most |val f| has a greater magnitude. In every mode the result has f's
sign. -/
def Obligations.DirectedHalfEncodeIsClosestOnItsSide : Prop :=
    ∀ f : BitVec 32, isFinite binary32 f = true →
      (∀ mode, signOf binary16 (f2h f mode) = signOf binary32 f) ∧
      (∀ h : BitVec 16, isFinite binary16 h = true → floatVal binary16 h ≤ floatVal binary32 f →
        isFinite binary16 (f2h f .rd) = true ∧ floatVal binary16 (f2h f .rd) ≤ floatVal binary32 f ∧
        floatVal binary16 h ≤ floatVal binary16 (f2h f .rd)) ∧
      ((∀ h : BitVec 16, isFinite binary16 h = true → floatVal binary32 f < floatVal binary16 h) → f2h f .rd = 0xFC00) ∧
      (∀ h : BitVec 16, isFinite binary16 h = true → floatVal binary32 f ≤ floatVal binary16 h →
        isFinite binary16 (f2h f .ru) = true ∧ floatVal binary32 f ≤ floatVal binary16 (f2h f .ru) ∧
        floatVal binary16 (f2h f .ru) ≤ floatVal binary16 h) ∧
      ((∀ h : BitVec 16, isFinite binary16 h = true → floatVal binary16 h < floatVal binary32 f) → f2h f .ru = 0x7C00) ∧
      isFinite binary16 (f2h f .rz) = true ∧ |floatVal binary16 (f2h f .rz)| ≤ |floatVal binary32 f| ∧
      (∀ h : BitVec 16, isFinite binary16 h = true → |floatVal binary16 h| ≤ |floatVal binary32 f| →
        |floatVal binary16 h| ≤ |floatVal binary16 (f2h f .rz)|)

/-- F2H in RNE is the nearest float16, ties to the even last bit (R230, R233, R235). For every finite float32 f: if |val
f| < 65520, F2H(f, RNE) is finite, no finite float16 is closer to val f, and if another value is equally close the
result's last bit is 0; if |val f| is at least 65520 the result is the infinity of f's sign. -/
def Obligations.NearestHalfEncodeIsNearestTiesToEven : Prop :=
    ∀ f : BitVec 32, isFinite binary32 f = true →
      (|floatVal binary32 f| < 65520 →
        isFinite binary16 (f2h f .rne) = true ∧
        ∀ h : BitVec 16, isFinite binary16 h = true →
          |floatVal binary16 (f2h f .rne) - floatVal binary32 f| ≤ |floatVal binary16 h - floatVal binary32 f| ∧
          (floatVal binary16 h ≠ floatVal binary16 (f2h f .rne) →
            |floatVal binary16 h - floatVal binary32 f| = |floatVal binary16 (f2h f .rne) - floatVal binary32 f| →
            (f2h f .rne).getLsbD 0 = false)) ∧
      (65520 ≤ |floatVal binary32 f| → f2h f .rne = f.extractLsb' 31 1 ++ 0x7C00#15)

/-- F2H(H2F(h)) = h in every mode for every float16 that is not a NaN (R241). For every float16 h that is not a NaN and
every mode, F2H(H2F(h), mode) = h; and for every finite float32 x whose exact value is that of a finite float16,
H2F(F2H(x, mode)) = x. -/
def Obligations.HalfSurvivesRoundTrip : Prop :=
    ∀ mode : RoundingMode,
      (∀ h : BitVec 16, ¬ NaN16 h → f2h (h2f h) mode = h) ∧
      ∀ x : BitVec 32, isFinite binary32 x = true →
        (∃ h : BitVec 16, isFinite binary16 h = true ∧ floatVal binary16 h = floatVal binary32 x) →
        h2f (f2h x mode) = x

/-- H2F(F2H(x)) is within one float16 ulp of x, half an ulp in RNE (R241). For every finite float32 x with |val x| at most
65504 and every mode: |val(H2F(F2H(x, mode))) - val x| is less than one float16 ulp at x's magnitude, and in RNE at
most half of it, where the ulp is 2^(max(e, -14) - 10) with e the exponent of x. -/
def Obligations.RoundTripStaysWithinOneUlp : Prop :=
    ∀ x : BitVec 32, isFinite binary32 x = true → |floatVal binary32 x| ≤ 65504 →
      (∀ mode : RoundingMode,
        |floatVal binary32 (h2f (f2h x mode)) - floatVal binary32 x| < halfUlpAt x) ∧
      |floatVal binary32 (h2f (f2h x .rne)) - floatVal binary32 x| ≤ halfUlpAt x / 2

/-- BaseTable and ShiftTable give the truncated conversion below 2^16 and infinity above (R21, R234). For every float32 f
with exponent not 0xFF: if its exponent is at most 142 (e at most 15) the table path equals F2H(f, RZ), and from 143
on it is the infinity of f's sign; the fraction the table path adds is at most 0x3FF for every f. -/
def Obligations.TablePathIsTruncation : Prop :=
    ∀ f : BitVec 32,
      tableFraction f ≤ 0x3FF ∧
      (expOf binary32 f ≤ 142 → tablePath f = f2h f .rz) ∧
      (143 ≤ expOf binary32 f → expOf binary32 f ≠ 0xFF → tablePath f = f.extractLsb' 31 1 ++ 0x7C00#15)

/-- The source's truncate, ceiling and floor corrections of the table path agree with F2H (R234, R239). For every float32
f that is not a NaN: the table path with the truncate correction is F2H(f, RZ), with the ceiling correction F2H(f,
RU), with the floor correction F2H(f, RD). The corrections are the model's reading of R239's quoted prose (log 15). -/
def Obligations.TableCorrectionsGiveTheDirectedModes : Prop :=
    ∀ f : BitVec 32, ¬ NaN32 f →
      tableTruncate f = f2h f .rz ∧ tableCeiling f = f2h f .ru ∧ tableFloor f = f2h f .rd

/-- GETCSR completes with CSR in R[31:0], its bits 31:16 zero, and changes nothing else (R32, R270). GETCSR, in every
state: exec answers a next state in which R[15:0] = CSR[15:0] and R[255:16] = 0, ERR = 0 and everything else, CSR
included, is unchanged; where CSR's reserved bits are zero, R[31:0] = CSR and R[255:32] = 0. That R[31:16] = 0 also
where CSR's stored bits 31:16 are not zero, in states no run reaches, is the model's reading of R32 (log 6, DEDUCED);
R270 itself copies CSR whole. The one word with this OP is 0x00000050, every other is reserved. -/
def Obligations.GetcsrReadsCsr : Prop :=
    OneForm 0x50 .getcsr ∧
    ∀ s : State,
      ∃ r, Completes .getcsr s r ∧ r = (s.csr.extractLsb' 0 16).setWidth 256 ∧
        (csrReserved s.csr = 0 → r.extractLsb' 0 32 = s.csr ∧ r.extractLsb' 32 224 = 0)

/-- SETCSR writes A[31:0] to CSR, or raises InvalidArgument when A[31:16] is not zero (R271). SETCSR, in every state: when
A[31:16] = 0, exec answers a next state with CSR = A[31:0] (every field), R = 0, ERR = 0; otherwise R = 0, ERR = 1 and
CSR keeps its value; everything else is unchanged. In the first case a GETCSR after it reads A[31:0]. The one word
with this OP is 0x00000051, every other is reserved. -/
def Obligations.SetcsrWritesCsrOrRaises : Prop :=
    OneForm 0x51 .setcsr ∧
    ∀ s : State,
      if s.a.extractLsb' 16 16 = 0 then
        exec .setcsr s = .next { s with csr := s.a.extractLsb' 0 32, r := 0, err := 0 } ∧
        Completes .getcsr { s with csr := s.a.extractLsb' 0 32, r := 0, err := 0 } ((s.a.extractLsb' 0 32).setWidth 256)
      else Raises .setcsr s 1

/-- No command but SETCSR changes any field of CSR (R20, R28, R30). For every state and every instruction other than
SETCSR, exec answers a next state whose CSR is the old one; and a next state never differs in the input ports, the
requesters or their schedule, SETCSR's included. -/
def Obligations.OnlySetcsrChangesCsr : Prop :=
    ∀ (i : Instr) (s : State), ∃ t, exec i s = .next t ∧
      (i ≠ .setcsr → t.csr = s.csr) ∧
      t.cmd = s.cmd ∧ t.a = s.a ∧ t.b = s.b ∧ t.requesters = s.requesters ∧ t.schedule = s.schedule

/-- DAZ, FTZ, the masks and the flags change no result; only VCVTPS2PH reads CSR, and only RC (R20, R31). For two states
with the same A and B and any CSR values: every instruction other than GETCSR and VCVTPS2PH gives the same R and ERR
in both; VCVTPS2PH gives the same R and ERR when RC is the same in both, and whatever RC is when IMM8[2] = 0. -/
def Obligations.CsrMattersOnlyThroughRC : Prop :=
    ∀ (i : Instr) (s t : State), s.a = t.a → s.b = t.b → i ≠ .getcsr →
      (∀ sel, i = .vcvtps2ph128 sel ∨ i = .vcvtps2ph256 sel → sel.getLsbD 2 = false ∨ csrRC s.csr = csrRC t.csr) →
      ∃ s' t', exec i s = .next s' ∧ exec i t = .next t' ∧ s'.r = t'.r ∧ s'.err = t'.err

/-- An operand, or part of one, that an operation does not read has no effect on the outcome (R25, R67, R181, R182, R213).
For two states with the same CSR, the outcome (R, ERR, CSR) is the same: for every W = 0 command, when A[127:0] and
B[127:0] agree; for VCVTPS2PH and VCVTPH2PS, whatever B is; for VCVTPH2PS.256 when A[127:0] agree, .128 when A[63:0]
agree; for CMPSS and CMPSD when A[127:0] agree and lane 0 of B agrees; for SETCSR when A[31:0] agree; for GETCSR
always. -/
def Obligations.UnreadOperandsHaveNoEffect : Prop :=
    ∀ s t : State, s.csr = t.csr →
      (∀ i : Instr, i.w256 = false → low128 s.a = low128 t.a → low128 s.b = low128 t.b → SameOutcome i s t) ∧
      (s.a = t.a → ∀ sel, SameOutcome (.vcvtps2ph128 sel) s t ∧ SameOutcome (.vcvtps2ph256 sel) s t) ∧
      (low128 s.a = low128 t.a → SameOutcome .vcvtph2ps256 s t) ∧
      (lane 64 0 s.a = lane 64 0 t.a → SameOutcome .vcvtph2ps128 s t) ∧
      (low128 s.a = low128 t.a → lane 32 0 s.b = lane 32 0 t.b → ∀ p, SameOutcome (.cmpss p) s t) ∧
      (low128 s.a = low128 t.a → lane 64 0 s.b = lane 64 0 t.b → ∀ p, SameOutcome (.cmpsd p) s t) ∧
      (lane 32 0 s.a = lane 32 0 t.a → SameOutcome .setcsr s t) ∧
      SameOutcome .getcsr s t

/-- Every lane-wise 256-bit form is the 128-bit form on each half, concatenated (R62). For each of the 22 lane-wise
operations (the compares under any code at most 0x1F) and every state: the 256-bit form completes with R =
op128(A[255:128], B[255:128]) : op128(A[127:0], B[127:0]), where op128 is what the 128-bit form answers on each half. -/
def Obligations.WideFormsComposeFromHalves : Prop :=
    ∀ (p : Imm8) (s : State), p.toNat ≤ 0x1F → ∀ pair ∈ laneWisePairs p,
      ∃ r lo hi, Completes pair.2 s r ∧
        Completes pair.1 { s with a := (low128 s.a).setWidth 256, b := (low128 s.b).setWidth 256 } lo ∧
        Completes pair.1 { s with a := (high128 s.a).setWidth 256, b := (high128 s.b).setWidth 256 } hi ∧
        r = low128 hi ++ low128 lo

/-- Decoding the word of any command gives the command back (R60, R63, R71). For every command i, with every IMM8 value:
decode (encode i) = i, and the word's fields are i's OP, IMM8 and W with RSV = 0. -/
def Obligations.DecodeInvertsEncode : Prop :=
    ∀ i : Instr, decode (encode i) = .ok i ∧
      opField (encode i) = i.op.code ∧ immField (encode i) = i.imm ∧ widthField (encode i) = i.w256 ∧ rsvField (encode i) = 0

/-- A word that decodes is the one word of its command (R60, R65, R68, R71). For every 32-bit word w and command i: if w
decodes to i then encode i = w, so no bit of a command word is dropped and no two words stand for one command. -/
def Obligations.EncodeInvertsDecode : Prop :=
    ∀ (w : CommandWord) (i : Instr), decode w = .ok i → encode i = w

/-- The decoder refuses a word exactly when R64 makes it reserved (R64, R65). For every 32-bit word: it decodes to a
command exactly when none of R64's conditions holds (RSV not zero, OP not in the map, W = 1 on CMPSS, CMPSD, GETCSR or
SETCSR, IMM8 not zero where it must be zero). -/
def Obligations.DecodeRefusesExactlyReservedWords : Prop :=
    ∀ w : CommandWord, (∃ i, decode w = .ok i) ↔ reservedWord w = false

/-- Words written out from the spec's encoding decode to the commands they stand for (R63, R69, R71). The spec's own
example words, one or more for every family: 0x00000010 is PADDSB.128, 0x00010011 PADDSW.256, 0x00010020 PACKSSWB.256,
0x0000002D PUNPCKHDQ.128, 0x00000831 CMPPD.128 EQ_UQ, 0x00010D30 CMPPS.256 GE_OS, 0x00000433 CMPSD NEQ_UQ, 0x00000C40
VCVTPS2PH.128 0x0C, 0x00010041 VCVTPH2PS.256, 0x00000050 GETCSR, 0x00000051 SETCSR. -/
def Obligations.WrittenOutWordsDecode : Prop :=
    decode 0x00000010 = .ok .paddsb128 ∧ decode 0x00010011 = .ok .paddsw256 ∧
    decode 0x00010020 = .ok .packsswb256 ∧ decode 0x0000002D = .ok .punpckhdq128 ∧
    decode 0x00000831 = .ok (.cmppd128 0x08) ∧ decode 0x00010D30 = .ok (.cmpps256 0x0D) ∧
    decode 0x00000433 = .ok (.cmpsd 0x04) ∧ decode 0x00000C40 = .ok (.vcvtps2ph128 0x0C) ∧
    decode 0x00010041 = .ok .vcvtph2ps256 ∧ decode 0x00000050 = .ok .getcsr ∧ decode 0x00000051 = .ok .setcsr

/-- Each pseudo-instruction assembles to its operation with the fixed immediate (R69, R70, R238). For each named
compare and kind, the expansion with no suffix assembles to the CMP command with the code of R70's table (0 to 7, 9,
0x0A, 0x0D, 0x0E); VCVTPS2PH.RNE, .RD, .RU, .RZ and .CUR assemble to VCVTPS2PH.128 with 0x08, 0x09, 0x0A, 0x0B, 0x0C,
and with .256 to the 256-bit form. That an alias takes the width suffix of its expansion is the model's reading (log
19). -/
def Obligations.PseudoInstructionsExpand : Prop :=
    (∀ x ∈ ([(.eq, 0), (.lt, 1), (.le, 2), (.unord, 3), (.neq, 4), (.nlt, 5), (.nle, 6), (.ord, 7),
          (.nge, 9), (.ngt, 0x0A), (.ge, 0x0D), (.gt, 0x0E)] : List (NamedCompare × Imm8)),
        assemble ((Pseudo.compare x.1 .ps).expand none) = some (.cmpps128 x.2) ∧
        assemble ((Pseudo.compare x.1 .pd).expand none) = some (.cmppd128 x.2) ∧
        assemble ((Pseudo.compare x.1 .ss).expand none) = some (.cmpss x.2) ∧
        assemble ((Pseudo.compare x.1 .sd).expand none) = some (.cmpsd x.2) ∧
        assemble ((Pseudo.compare x.1 .ps).expand (some .w256)) = some (.cmpps256 x.2) ∧
        assemble ((Pseudo.compare x.1 .pd).expand (some .w256)) = some (.cmppd256 x.2)) ∧
    ∀ x ∈ ([(.cvtRNE, 0x08), (.cvtRD, 0x09), (.cvtRU, 0x0A), (.cvtRZ, 0x0B), (.cvtCUR, 0x0C)] : List (Pseudo × Imm8)),
        assemble (x.1.expand none) = some (.vcvtps2ph128 x.2) ∧
        assemble (x.1.expand (some .w256)) = some (.vcvtps2ph256 x.2)

/-- A step runs the decoded command of the requester whose turn it is (R44, R45, R46). When the schedule's next turn
names a requester with a command to issue and its word decodes to i: step is exec of i at the state with that command
driven on CMD, A and B, removed from the requester's list, and the turn taken. Holding the requesters and the schedule
in the state (log 3), and the command on the ports after it (log 2), is the model's choice. -/
def Obligations.StepRunsTheDecodedCommand : Prop :=
    ∀ (s : State) (k : Nat) (ks : List Nat) (c : Command) (cs : List Command) (i : Instr),
      s.schedule = k :: ks → s.requesters[k]? = some (c :: cs) → decode c.cmd = .ok i →
      step s = exec i { s with
        cmd := c.cmd, a := c.a, b := c.b, requesters := s.requesters.set k cs, schedule := ks }

/-- A step on a reserved word drives ERR = 2 and R = 0 and leaves CSR as it was (R64, R281, R282). When the requester
whose turn it is issues a command word that is reserved: step answers the state with R = 0, ERR = 2 and CSR unchanged,
whatever A and B are and whatever IMM8 is. That the command leaves the requester's list and its turn the schedule (log
3), and that CMD, A and B keep the command afterwards (log 2), is the model's choice (DESIGN CHOICE). -/
def Obligations.ReservedWordRaisesReservedEncoding : Prop :=
    ∀ (s : State) (k : Nat) (ks : List Nat) (c : Command) (cs : List Command),
      s.schedule = k :: ks → s.requesters[k]? = some (c :: cs) → reservedWord c.cmd = true →
      step s = .next { s with
        cmd := c.cmd, a := c.a, b := c.b, requesters := s.requesters.set k cs, schedule := ks, r := 0, err := 2 }

/-- A turn of a requester with nothing to send, or no turn at all, issues no command (20_memory.md section 4). The
model's choice (log 4; the schedule itself is log 3): with an empty schedule step leaves the state as it is; with a
turn of a requester that is absent or has nothing to send, step only takes the turn. -/
def Obligations.TurnWithoutCommandIssuesNothing : Prop :=
    (∀ s : State, s.schedule = [] → step s = .next s) ∧
    (∀ (s : State) (k : Nat) (ks : List Nat), s.schedule = k :: ks → s.requesters[k]? = none →
      step s = .next { s with schedule := ks }) ∧
    ∀ (s : State) (k : Nat) (ks : List Nat), s.schedule = k :: ks → s.requesters[k]? = some [] →
      step s = .next { s with schedule := ks }

/-- ERR is 2 on a reserved word, else 1 on an illegal argument, else 0; an error leaves R = 0 and CSR unchanged (R280,
R281, R282, R289). For every state, the command on the port has a next state whose ERR is 2 when R64 makes the word
reserved, otherwise 1 when a compare's code is above 0x1F, a VCVTPS2PH selector has bits 7:4 not zero or a SETCSR
value has bits 31:16 not zero, otherwise 0; when ERR is not 0, R = 0 and CSR is unchanged; ERR is never 3. -/
def Obligations.ErrorCodeFollowsItsCauses : Prop :=
    ∀ s : State, ∃ t, executePort s = .next t ∧
      t.err = (if reservedWord s.cmd then 2 else if illegalArgument s.cmd s.a then 1 else 0) ∧
      (t.err ≠ 0 → t.r = 0 ∧ t.csr = s.csr) ∧ t.err ≠ 3

/-- Every step answers a next state: the block takes no trap and never stops (R281, R284). For every state, step answers a
next state; so for every number of steps, the run does. That an error is a next state with its code on ERR is read
from R281 (log 8). -/
def Obligations.EveryStepIsReady : Prop :=
    ∀ s : State, s.Ready ∧ ∀ n, ∃ t, runSteps n s = .next t

/-- Every step keeps CSR's reserved bits zero, ERR off code 3, and R zero on an error (R32, R281, R289). For every state s
with CSR[31:16] = 0, ERR not 3, and R = 0 where ERR is not 0: if step s answers next t then t satisfies the same. -/
def Obligations.StepKeepsInvariant : Prop :=
    ∀ s t : State, s.Inv → step s = .next t → t.Inv

/-- The reset state satisfies the invariant, whatever the requesters will send (R32, R33, R310). The reset state with any
requesters and any schedule satisfies the invariant, and so does reset with any CSR_RESET whose bits 31:16 are zero.
(R and ERR being 0 at reset is the model's choice, log 1.) -/
def Obligations.ResetSatisfiesInvariant : Prop :=
    (∀ (requesters : List (List Command)) (schedule : List Nat), (State.reset.withInput requesters schedule).Inv) ∧
    ∀ (c : CsrWord) (n : Nat), csrReserved c = 0 → (State.resetWith c n).Inv

/-- After reset CSR is 0x00001F80: masks set, flags clear, RC nearest, DAZ = FTZ = 0 (R33). In the reset state CSR =
0x00001F80, so IE, DE, ZE, OE, UE, PE, DAZ and FTZ are 0, IM, DM, ZM, OM, UM and PM are 1, RC = 00 and bits 31:16 are
0; and resetWith takes any other CSR_RESET. -/
def Obligations.ResetCsrHoldsItsDefault : Prop :=
    State.reset.csr = 0x00001F80 ∧
    csrIE State.reset.csr = false ∧ csrDE State.reset.csr = false ∧ csrZE State.reset.csr = false ∧
    csrOE State.reset.csr = false ∧ csrUE State.reset.csr = false ∧ csrPE State.reset.csr = false ∧
    csrDAZ State.reset.csr = false ∧ csrFTZ State.reset.csr = false ∧
    csrIM State.reset.csr = true ∧ csrDM State.reset.csr = true ∧ csrZM State.reset.csr = true ∧
    csrOM State.reset.csr = true ∧ csrUM State.reset.csr = true ∧ csrPM State.reset.csr = true ∧
    csrRC State.reset.csr = 0 ∧ csrReserved State.reset.csr = 0 ∧
    ∀ (c : CsrWord) (n : Nat), (State.resetWith c n).csr = c

/-- Doing a command other than SETCSR twice is doing it once (R44). For every state and every command whose word is not
SETCSR, what the block does with the command twice in a row is what it does with it once. -/
def Obligations.CommandsExceptSetcsrAreIdempotent : Prop :=
    ∀ (s : State) (c : Command), decode c.cmd ≠ .ok .setcsr →
      commandResult (commandResult s c) c = commandResult s c

/-- A command that ends in an error has no effect on any later command (R281, R290). For every state and commands c and d:
if c ends with ERR not 0, then after c and d the whole state is what it is after d alone. -/
def Obligations.ErrorsLeaveNoTrace : Prop :=
    ∀ (s : State) (c d : Command), (commandResult s c).err ≠ 0 →
      commandResult (commandResult s c) d = commandResult s d

/-- The value SETCSR writes is the value the next command reads, from any requester (R45, R290, R313). For every
state: after a SETCSR command whose A[31:16] = 0, a VCVTPS2PH command that comes next, 128-bit or 256-bit, with
IMM8[7:4] = 0 and IMM8[2] = 1, completes with every lane (4, or 8) converted in the mode of A[14:13] of the SETCSR,
the rest of R zero and ERR = 0; and a GETCSR that comes next completes with R the SETCSR's A[31:0] and ERR = 0. The
block sees no requester number, so it does not matter who sends which. -/
def Obligations.SetcsrIsSeenByTheNextCommand : Prop :=
    ∀ (s : State) (set follow : Command),
      decode set.cmd = .ok .setcsr → set.a.extractLsb' 16 16 = 0 →
      (∀ sel : Imm8, sel.toNat < 0x10 → sel.getLsbD 2 = true →
        (decode follow.cmd = .ok (.vcvtps2ph128 sel) →
          (∀ i, i < 4 → lane 16 i (commandResult (commandResult s set) follow).r
            = f2h (lane 32 i follow.a) (modeOf (set.a.extractLsb' 13 2))) ∧
          (commandResult (commandResult s set) follow).r.extractLsb' 64 192 = 0 ∧
          (commandResult (commandResult s set) follow).err = 0) ∧
        (decode follow.cmd = .ok (.vcvtps2ph256 sel) →
          (∀ i, i < 8 → lane 16 i (commandResult (commandResult s set) follow).r
            = f2h (lane 32 i follow.a) (modeOf (set.a.extractLsb' 13 2))) ∧
          (commandResult (commandResult s set) follow).r.extractLsb' 128 128 = 0 ∧
          (commandResult (commandResult s set) follow).err = 0)) ∧
      (decode follow.cmd = .ok .getcsr →
        (commandResult (commandResult s set) follow).r = (set.a.extractLsb' 0 32).setWidth 256 ∧
        (commandResult (commandResult s set) follow).err = 0)

/-- Every interleaving of the requesters' commands that keeps each one's order is a run of the machine (R44, R45, R46,
R290). For every state, every family of command sequences and every sequence of issues that interleaves them keeping
each requester's own order: with that input loaded and the issues' requester numbers as the schedule, as many steps as
there are issues end in the state that the block's own execution of the commands, one after the other, gives, with
every requester done and the schedule used up. The lists and the schedule are how the model holds the requesters (log
3). -/
def Obligations.EveryInterleavingIsARun : Prop :=
    ∀ (s : State) (queues : List (List Command)) (run : List Issue), Interleaves queues run →
      runSteps run.length (s.withInput queues (run.map Prod.fst)) =
        .next ((commandsResult s (run.map Prod.snd)).withInput (queues.map fun _ => []) [])

/-- Whatever the schedule, each requester's commands are executed in its own order (R45, R46). For every state, every
family of command sequences and every schedule: after as many steps as the schedule has turns, the block has executed
one sequence of issues, the state is what executing those commands one after the other gives, and for every requester
the commands of its own that were executed, followed by those it has left, are its sequence as it was. The lists and
the schedule are how the model holds the requesters (log 3, log 4). -/
def Obligations.EveryScheduleKeepsProgramOrder : Prop :=
    ∀ (s : State) (queues : List (List Command)) (schedule : List Nat), ∃ (run : List Issue) (left : List (List Command)),
      run = issuesOf schedule queues ∧
      runSteps schedule.length (s.withInput queues schedule) =
        .next ((commandsResult s (run.map Prod.snd)).withInput left []) ∧
      left.length = queues.length ∧ (∀ x ∈ run, x.1 < queues.length) ∧
      ∀ k, issuedBy k run ++ left.getD k [] = queues.getD k []

/-- A command's outcome depends only on CMD, A, B and CSR (R35). For two states with the same CMD, A, B and CSR, whatever
else differs (the last R and ERR, the requesters, the schedule), executing the port gives the same R, ERR and CSR. -/
def Obligations.OutcomeDependsOnPortAndCsrOnly : Prop :=
    ∀ s t : State, s.cmd = t.cmd → s.a = t.a → s.b = t.b → s.csr = t.csr →
      ∃ s' t', executePort s = .next s' ∧ executePort t = .next t' ∧
        s'.r = t'.r ∧ s'.err = t'.err ∧ s'.csr = t'.csr

/-- A wide lane is its two narrow lanes, the lower index less significant; set and setr put e_0 in lane 0 (R23, R24, R41,
R42). For every vector V and index i: V.e16[i] = V.e8[2i+1] : V.e8[2i], V.e32[i] = V.e16[2i+1] : V.e16[2i], V.e64[i] =
V.e32[2i+1] : V.e32[2i]. For lanes of any width that fit, lane i of setr(es) is the i-th argument, lane i of set(es)
the i-th from the end, and set of a list is setr of the reversed list. -/
def Obligations.LanesAreLittleEndianAndSetPlacesThem : Prop :=
    (∀ (v : Vec256) (i : Nat),
      lane 16 i v = lane 8 (2 * i + 1) v ++ lane 8 (2 * i) v ∧
      lane 32 i v = lane 16 (2 * i + 1) v ++ lane 16 (2 * i) v ∧
      lane 64 i v = lane 32 (2 * i + 1) v ++ lane 32 (2 * i) v) ∧
    ∀ (n w : Nat) (es : List (BitVec w)), w * es.length ≤ n →
      (∀ i, i < es.length → lane w i (setrLanes n w es : BitVec n) = es.getD i 0) ∧
      (∀ i, i < es.length → lane w i (setLanes n w es : BitVec n) = es.getD (es.length - 1 - i) 0) ∧
      setLanes n w es = setrLanes n w es.reverse

/-- The value of the scoped rounding pattern changes RC and no other field (R272). For every CSR value old with zero
reserved bits and every rc: (old & ~0x6000) | (rc << 13) has RC = rc, the other bits of old, and zero reserved bits,
so SETCSR accepts it. -/
def Obligations.RoundingControlCanBeReplacedAlone : Prop :=
    ∀ (old : CsrWord) (rc : BitVec 2), csrReserved old = 0 →
      csrRC (csrWithRC old rc) = rc ∧ csrReserved (csrWithRC old rc) = 0 ∧
      ∀ i, i ≠ 13 → i ≠ 14 → (csrWithRC old rc).getLsbD i = old.getLsbD i

/-- Saturation keeps a value in range, stays within the bounds, and otherwise gives the nearer bound (R100, R101). For
each target type: the bounds are int8 [-128, 127], uint8 [0, 255], int16 [-32768, 32767], uint16 [0, 65535]; the clamp
of a value within them is the value, of any value lies within them, of a lesser value is the least and of a greater
the greatest; and the result's bits read back as the clamped value. -/
def Obligations.SaturationIsTheNearestValueInRange : Prop :=
    (SatType.int8.lo = -128 ∧ SatType.int8.hi = 127 ∧ SatType.uint8.lo = 0 ∧ SatType.uint8.hi = 255 ∧
      SatType.int16.lo = -32768 ∧ SatType.int16.hi = 32767 ∧ SatType.uint16.lo = 0 ∧ SatType.uint16.hi = 65535) ∧
    (∀ (t : SatType) (x : Int),
      (t.lo ≤ x → x ≤ t.hi → clamp x t.lo t.hi = x) ∧ t.lo ≤ clamp x t.lo t.hi ∧ clamp x t.lo t.hi ≤ t.hi ∧
      (x < t.lo → clamp x t.lo t.hi = t.lo) ∧ (t.hi < x → clamp x t.lo t.hi = t.hi)) ∧
    ∀ x : Int, SatType.int8.read (saturate .int8 8 x) = clamp x (-128) 127 ∧
      SatType.uint8.read (saturate .uint8 8 x) = clamp x 0 255 ∧
      SatType.int16.read (saturate .int16 16 x) = clamp x (-32768) 32767 ∧
      SatType.uint16.read (saturate .uint16 16 x) = clamp x 0 65535
end

