-- ==== Sys2Proof/Laws/HalfRange.lean ====
section
/-! SUPPORT. The range of the finite float16 values (R11, R12). -/

namespace Sys2Proof.Machine

theorem fracOf_lt (fmt : FloatFormat) {n : Nat} (f : BitVec n) : fracOf fmt f < 2 ^ fmt.fracBits :=
  (f.extractLsb' 0 fmt.fracBits).isLt

theorem expOf_lt (fmt : FloatFormat) {n : Nat} (f : BitVec n) : expOf fmt f < 2 ^ fmt.expBits :=
  (f.extractLsb' fmt.fracBits fmt.expBits).isLt

/-- No finite float16 is greater in magnitude than 65504 (R235). -/
theorem abs_floatVal_half_le (h : BitVec 16) (hf : isFinite binary16 h = true) : |floatVal binary16 h| ≤ 65504 := by
  have hm : (fracOf binary16 h : ℚ) ≤ 1023 := by
    have : fracOf binary16 h < 1024 := fracOf_lt binary16 h
    exact_mod_cast Nat.le_of_lt_succ this
  have hm0 : (0 : ℚ) ≤ fracOf binary16 h := by positivity
  have he : expOf binary16 h ≤ 30 := by
    have h1 : expOf binary16 h < 32 := expOf_lt binary16 h
    have h2 : expOf binary16 h ≠ 31 := by
      intro h3
      simp [isFinite, expOnes, binary16] at hf
      exact hf h3
    omega
  have hs : |(if signOf binary16 h then (-1 : ℚ) else 1)| = 1 := by split <;> simp
  have hp0 : ∀ k : ℤ, (0 : ℚ) < (2 : ℚ) ^ k := fun k => by positivity
  have bias : ((binary16.bias : ℕ) : ℤ) = 15 := rfl
  have frac' : binary16.fracBits = 10 := rfl
  unfold floatVal
  simp only [bias, frac', Nat.cast_ofNat]
  by_cases hE : expOf binary16 h ≠ 0
  · have hp : (2 : ℚ) ^ ((expOf binary16 h : ℤ) - 15 - 10) ≤ (2 : ℚ) ^ (5 : ℤ) := by
      apply zpow_le_zpow_right₀ (by norm_num)
      omega
    rw [if_pos hE, abs_mul, abs_mul, hs, one_mul, abs_of_pos (hp0 _), abs_of_nonneg (by positivity)]
    calc (2 ^ 10 + (fracOf binary16 h : ℚ)) * (2 : ℚ) ^ ((expOf binary16 h : ℤ) - 15 - 10)
        ≤ 2047 * (2 : ℚ) ^ (5 : ℤ) := by
          apply mul_le_mul _ hp (hp0 _).le (by norm_num)
          linarith
      _ = 65504 := by norm_num
  · have hp : (2 : ℚ) ^ ((1 : ℤ) - 15 - 10) ≤ 1 := by norm_num
    rw [if_neg hE, abs_mul, abs_mul, hs, one_mul, abs_of_pos (hp0 _), abs_of_nonneg hm0]
    have := hp0 ((1 : ℤ) - 15 - 10)
    nlinarith

end Sys2Proof.Machine
end

