-- ==== Sys2Proof/Laws/Lanes.lean ====
section
/-! SUPPORT. The spec lemmas of the operand forms: what a lane of a built vector is, what the 128-bit and the 256-bit form put
into each half. -/

namespace Sys2Proof.Machine

@[simp] theorem getLsbD_lane {n : Nat} (w i j : Nat) (v : BitVec n) :
    (lane w i v).getLsbD j = (decide (j < w) && v.getLsbD (w * i + j)) := by
  simp [lane, BitVec.getLsbD_extractLsb']

/-- Every bit of a vector built from lanes. -/
theorem getLsbD_ofLanes (n w count : Nat) (f : Nat → BitVec w) (hw : 0 < w) (j : Nat) (hj : j < n) :
    (ofLanes n w count f).getLsbD j = (decide (j < w * count) && (f (j / w)).getLsbD (j % w)) := by
  induction count with
  | zero => simp [ofLanes]
  | succ count ih =>
    simp only [ofLanes, BitVec.getLsbD_or, ih, BitVec.getLsbD_shiftLeft, BitVec.getLsbD_setWidth]
    by_cases h : j < w * count
    · have : j < w * (count + 1) := Nat.lt_of_lt_of_le h (Nat.mul_le_mul_left w (Nat.le_succ count))
      simp [h, this]
    · have hge : w * count ≤ j := Nat.le_of_not_lt h
      by_cases h2 : j < w * (count + 1)
      · have hdiv : j / w = count := by
          rw [Nat.div_eq_iff hw]
          constructor
          · rw [Nat.mul_comm] at hge; omega
          · rw [Nat.mul_succ, Nat.mul_comm] at h2; omega
        have hmod : j % w = j - w * count := by
          have := Nat.div_add_mod j w
          rw [hdiv] at this
          omega
        have : j - w * count < n := by omega
        simp [h, h2, hj, hdiv, hmod, this]
      · have : w ≤ j - w * count := by rw [Nat.mul_succ] at h2; omega
        simp [h, h2, BitVec.getLsbD_of_ge _ _ this]

/-- A lane of a vector built from lanes that fit is that lane. -/
theorem lane_ofLanes_of_lt (n w count : Nat) (f : Nat → BitVec w) (hn : w * count ≤ n) (i : Nat) (hi : i < count) :
    lane w i (ofLanes n w count f) = f i := by
  rcases Nat.eq_zero_or_pos w with rfl | hw
  · exact Subsingleton.elim _ _
  · ext j hj
    have hlt : w * i + j < w * count := by
      calc w * i + j < w * i + w := by omega
        _ = w * (i + 1) := by rw [Nat.mul_succ]
        _ ≤ w * count := Nat.mul_le_mul_left w hi
    have hdiv : (w * i + j) / w = i := by
      rw [Nat.mul_add_div hw, Nat.div_eq_of_lt hj, Nat.add_zero]
    have hmod : (w * i + j) % w = j := by
      rw [Nat.mul_add_mod, Nat.mod_eq_of_lt hj]
    rw [← BitVec.getLsbD_eq_getElem, ← BitVec.getLsbD_eq_getElem, getLsbD_lane,
      getLsbD_ofLanes n w count f hw _ (by omega), hdiv, hmod]
    simp [hj, hlt]

/-- Above its lanes a built vector is zero. -/
theorem ofLanes_bit_above (n w count : Nat) (f : Nat → BitVec w) (hw : 0 < w) (j : Nat) (hj : w * count ≤ j) :
    (ofLanes n w count f).getLsbD j = false := by
  by_cases h : j < n
  · rw [getLsbD_ofLanes n w count f hw j h]
    simp [Nat.not_lt.mpr hj]
  · exact BitVec.getLsbD_of_ge _ _ (Nat.le_of_not_lt h)

/-- The high half of a concatenation. -/
@[simp] theorem high128_append (x y : Vec128) : high128 (x ++ y) = x := by
  ext j hj
  rw [← BitVec.getLsbD_eq_getElem, ← BitVec.getLsbD_eq_getElem, high128, BitVec.getLsbD_extractLsb', BitVec.getLsbD_append]
  simp [hj]

/-- The low half of a concatenation. -/
@[simp] theorem low128_append (x y : Vec128) : low128 (x ++ y) = y := by
  ext j hj
  rw [← BitVec.getLsbD_eq_getElem, ← BitVec.getLsbD_eq_getElem, low128, BitVec.getLsbD_extractLsb', BitVec.getLsbD_append]
  simp [hj]

/-- A half zero-extended to the port has that half low. -/
@[simp] theorem low128_setWidth (x : Vec128) : low128 (x.setWidth 256) = x := by
  ext j hj
  rw [← BitVec.getLsbD_eq_getElem, ← BitVec.getLsbD_eq_getElem, low128, BitVec.getLsbD_extractLsb', BitVec.getLsbD_setWidth]
  simp [hj]
  omega

/-- A half zero-extended to the port has zero high. -/
@[simp] theorem high128_setWidth (x : Vec128) : high128 (x.setWidth 256) = 0 := by
  ext j hj
  simp [high128]

/-- The 128-bit form leaves the high half of R zero (R25). -/
@[simp] theorem high128_form128 (op : Vec128 → Vec128 → Vec128) (a b : Vec256) : high128 (form128 op a b) = 0 :=
  high128_setWidth _

/-- The 128-bit form puts its result in the low half of R (R61). -/
@[simp] theorem low128_form128 (op : Vec128 → Vec128 → Vec128) (a b : Vec256) :
    low128 (form128 op a b) = op (low128 a) (low128 b) :=
  low128_setWidth _

/-- The 256-bit form puts the operation on the high halves in the high half of R (R62). -/
@[simp] theorem high128_form256 (op : Vec128 → Vec128 → Vec128) (a b : Vec256) :
    high128 (form256 op a b) = op (high128 a) (high128 b) :=
  high128_append _ _

/-- The 256-bit form puts the operation on the low halves in the low half of R (R62). -/
@[simp] theorem low128_form256 (op : Vec128 → Vec128 → Vec128) (a b : Vec256) :
    low128 (form256 op a b) = op (low128 a) (low128 b) :=
  low128_append _ _

/-- A lane that lies in the low half is a lane of the low half. -/
theorem lane_low128 (w i : Nat) (v : Vec256) (h : w * (i + 1) ≤ 128) : lane w i (low128 v) = lane w i v := by
  ext j hj
  have : w * i + j < 128 := by rw [Nat.mul_succ] at h; omega
  rw [← BitVec.getLsbD_eq_getElem, ← BitVec.getLsbD_eq_getElem, getLsbD_lane, getLsbD_lane]
  simp [low128, this]

/-- A lane that lies in the high half is a lane of the high half. -/
theorem lane_high128 (w i k : Nat) (v : Vec256) (hk : w * k = 128) (h : w * (i + 1) ≤ 128) :
    lane w i (high128 v) = lane w (k + i) v := by
  ext j hj
  have hlt : w * i + j < 128 := by rw [Nat.mul_succ] at h; omega
  rw [← BitVec.getLsbD_eq_getElem, ← BitVec.getLsbD_eq_getElem, getLsbD_lane, getLsbD_lane]
  have : w * (k + i) + j = 128 + (w * i + j) := by rw [Nat.mul_add, hk]; omega
  simp [high128, this, hlt]

/-- A lane of a lane by lane operation. -/
theorem lane_zipLanes (w count : Nat) (g : BitVec w → BitVec w → BitVec w) (a b : Vec128) (hn : w * count ≤ 128)
    (i : Nat) (hi : i < count) : lane w i (zipLanes w count g a b) = g (lane w i a) (lane w i b) :=
  lane_ofLanes_of_lt 128 w count _ hn i hi

end Sys2Proof.Machine
end

