-- ==== Sys2Proof/Laws/State.lean ====
section
/-! SUPPORT. One lemma per field per update of the state, each true by definition, so that no proof unfolds a record update. -/

namespace Sys2Proof.Machine

@[simp] theorem State.complete_csr (s : State) (x : Vec256) : (s.complete x).csr = s.csr := rfl
@[simp] theorem State.complete_cmd (s : State) (x : Vec256) : (s.complete x).cmd = s.cmd := rfl
@[simp] theorem State.complete_a (s : State) (x : Vec256) : (s.complete x).a = s.a := rfl
@[simp] theorem State.complete_b (s : State) (x : Vec256) : (s.complete x).b = s.b := rfl
@[simp] theorem State.complete_r (s : State) (x : Vec256) : (s.complete x).r = x := rfl
@[simp] theorem State.complete_err (s : State) (x : Vec256) : (s.complete x).err = 0 := rfl
@[simp] theorem State.complete_requesters (s : State) (x : Vec256) : (s.complete x).requesters = s.requesters := rfl
@[simp] theorem State.complete_schedule (s : State) (x : Vec256) : (s.complete x).schedule = s.schedule := rfl

@[simp] theorem State.raise_csr (s : State) (e : ErrorKind) : (s.raise e).csr = s.csr := rfl
@[simp] theorem State.raise_cmd (s : State) (e : ErrorKind) : (s.raise e).cmd = s.cmd := rfl
@[simp] theorem State.raise_a (s : State) (e : ErrorKind) : (s.raise e).a = s.a := rfl
@[simp] theorem State.raise_b (s : State) (e : ErrorKind) : (s.raise e).b = s.b := rfl
@[simp] theorem State.raise_r (s : State) (e : ErrorKind) : (s.raise e).r = 0 := rfl
@[simp] theorem State.raise_err (s : State) (e : ErrorKind) : (s.raise e).err = e.code := rfl
@[simp] theorem State.raise_requesters (s : State) (e : ErrorKind) : (s.raise e).requesters = s.requesters := rfl
@[simp] theorem State.raise_schedule (s : State) (e : ErrorKind) : (s.raise e).schedule = s.schedule := rfl

@[simp] theorem State.writeCsr_csr (s : State) (v : CsrWord) : (s.writeCsr v).csr = v := rfl
@[simp] theorem State.writeCsr_cmd (s : State) (v : CsrWord) : (s.writeCsr v).cmd = s.cmd := rfl
@[simp] theorem State.writeCsr_a (s : State) (v : CsrWord) : (s.writeCsr v).a = s.a := rfl
@[simp] theorem State.writeCsr_b (s : State) (v : CsrWord) : (s.writeCsr v).b = s.b := rfl
@[simp] theorem State.writeCsr_r (s : State) (v : CsrWord) : (s.writeCsr v).r = s.r := rfl
@[simp] theorem State.writeCsr_err (s : State) (v : CsrWord) : (s.writeCsr v).err = s.err := rfl
@[simp] theorem State.writeCsr_requesters (s : State) (v : CsrWord) : (s.writeCsr v).requesters = s.requesters := rfl
@[simp] theorem State.writeCsr_schedule (s : State) (v : CsrWord) : (s.writeCsr v).schedule = s.schedule := rfl

@[simp] theorem State.present_csr (s : State) (c : Command) : (s.present c).csr = s.csr := rfl
@[simp] theorem State.present_cmd (s : State) (c : Command) : (s.present c).cmd = c.cmd := rfl
@[simp] theorem State.present_a (s : State) (c : Command) : (s.present c).a = c.a := rfl
@[simp] theorem State.present_b (s : State) (c : Command) : (s.present c).b = c.b := rfl
@[simp] theorem State.present_r (s : State) (c : Command) : (s.present c).r = s.r := rfl
@[simp] theorem State.present_err (s : State) (c : Command) : (s.present c).err = s.err := rfl
@[simp] theorem State.present_requesters (s : State) (c : Command) : (s.present c).requesters = s.requesters := rfl
@[simp] theorem State.present_schedule (s : State) (c : Command) : (s.present c).schedule = s.schedule := rfl

@[simp] theorem State.submitFirst_csr (s : State) (c : Command) : (s.submitFirst c).csr = s.csr := rfl
@[simp] theorem State.submitFirst_cmd (s : State) (c : Command) : (s.submitFirst c).cmd = s.cmd := rfl
@[simp] theorem State.submitFirst_a (s : State) (c : Command) : (s.submitFirst c).a = s.a := rfl
@[simp] theorem State.submitFirst_b (s : State) (c : Command) : (s.submitFirst c).b = s.b := rfl
@[simp] theorem State.submitFirst_r (s : State) (c : Command) : (s.submitFirst c).r = s.r := rfl
@[simp] theorem State.submitFirst_err (s : State) (c : Command) : (s.submitFirst c).err = s.err := rfl
@[simp] theorem State.submitFirst_requesters (s : State) (c : Command) : (s.submitFirst c).requesters = (c :: s.requesters.headD []) :: s.requesters.tail := rfl
@[simp] theorem State.submitFirst_schedule (s : State) (c : Command) : (s.submitFirst c).schedule = 0 :: s.schedule := rfl

theorem State.readCsr_congr {s t : State} (h : s.csr = t.csr) : s.readCsr = t.readCsr := by
  simp only [State.readCsr, h]

@[simp] theorem State.readCsr_complete (s : State) (x : Vec256) : (s.complete x).readCsr = s.readCsr := rfl
@[simp] theorem State.readCsr_raise (s : State) (e : ErrorKind) : (s.raise e).readCsr = s.readCsr := rfl
@[simp] theorem State.readCsr_present (s : State) (c : Command) : (s.present c).readCsr = s.readCsr := rfl
@[simp] theorem State.readCsr_writeCsr (s : State) (v : CsrWord) :
    (s.writeCsr v).readCsr = (v.extractLsb' 0 16).setWidth 32 := rfl

@[simp] theorem ErrorKind.code_invalidArgument : ErrorKind.invalidArgument.code = 1 := rfl
@[simp] theorem ErrorKind.code_reservedEncoding : ErrorKind.reservedEncoding.code = 2 := rfl

theorem ErrorKind.code_ne_zero (e : ErrorKind) : e.code ≠ 0 := by cases e <;> decide

theorem ErrorKind.code_ne_three (e : ErrorKind) : e.code ≠ 3 := by cases e <;> decide

end Sys2Proof.Machine
end

