-- ==== Sys2Proof/Laws/Outcomes.lean ====
section
/-! SUPPORT. What each shared operation can do, said once: a compare, a conversion, a command, the port, a turn, a step. Later
proofs cite these and unfold none of them. -/

namespace Sys2Proof.Machine

/-- A code has a row exactly when it is at most 0x1F (R177). -/
theorem predicateOf_eq_none_iff (p : Imm8) : predicateOf p = none ↔ 0x1F < p.toNat := by
  simp only [predicateOf, List.getElem?_eq_none_iff, predicateTable, List.length_cons, List.length_nil]
  omega

/-- A compare raises InvalidArgument, or completes with the result of its code's row. -/
theorem comparing_cases (p : Imm8) (s : State) (result : PredicateRow → Vec256) :
    (0x1F < p.toNat ∧ comparing p s result = .next (s.raise .invalidArgument)) ∨
    ∃ row, predicateOf p = some row ∧ comparing p s result = .next (s.complete (result row)) := by
  unfold comparing
  cases h : predicateOf p with
  | none => exact .inl ⟨(predicateOf_eq_none_iff p).1 h, rfl⟩
  | some row => exact .inr ⟨row, rfl, rfl⟩

/-- A conversion raises InvalidArgument, or completes with the result of its mode. -/
theorem converting_cases (sel : Imm8) (s : State) (result : RoundingMode → Vec256) :
    (sel.extractLsb' 4 4 ≠ 0 ∧ converting sel s result = .next (s.raise .invalidArgument)) ∨
    (sel.extractLsb' 4 4 = 0 ∧ converting sel s result = .next (s.complete (result
      (RoundingMode.ofCode (if sel.getLsbD 2 then csrRC s.readCsr else sel.extractLsb' 0 2))))) := by
  unfold converting selectRounding
  by_cases h : sel.extractLsb' 4 4 ≠ 0
  · exact .inl ⟨h, by rw [if_pos h]⟩
  · exact .inr ⟨by simpa using h, by rw [if_neg h]⟩

/-- What a command can do: complete, raise InvalidArgument, or, SETCSR alone, write CSR. -/
theorem exec_cases (i : Instr) (s : State) :
    (∃ x, exec i s = .next (s.complete x)) ∨ exec i s = .next (s.raise .invalidArgument) ∨
    (i = .setcsr ∧ s.a.extractLsb' 16 16 = 0 ∧
      exec i s = .next ((s.writeCsr (s.a.extractLsb' 0 32)).complete 0)) := by
  have compares : ∀ (p : Imm8) (result : PredicateRow → Vec256),
      (∃ x, comparing p s result = .next (s.complete x)) ∨ comparing p s result = .next (s.raise .invalidArgument) := by
    intro p result
    obtain ⟨_, h⟩ | ⟨row, _, h⟩ := comparing_cases p s result
    · exact .inr h
    · exact .inl ⟨_, h⟩
  have converts : ∀ (sel : Imm8) (result : RoundingMode → Vec256),
      (∃ x, converting sel s result = .next (s.complete x)) ∨ converting sel s result = .next (s.raise .invalidArgument) := by
    intro sel result
    obtain ⟨_, h⟩ | ⟨_, h⟩ := converting_cases sel s result
    · exact .inr h
    · exact .inl ⟨_, h⟩
  cases i
  case cmpps128 p => exact (compares p _).imp_right .inl
  case cmpps256 p => exact (compares p _).imp_right .inl
  case cmppd128 p => exact (compares p _).imp_right .inl
  case cmppd256 p => exact (compares p _).imp_right .inl
  case cmpss p => exact (compares p _).imp_right .inl
  case cmpsd p => exact (compares p _).imp_right .inl
  case vcvtps2ph128 sel => exact (converts sel _).imp_right .inl
  case vcvtps2ph256 sel => exact (converts sel _).imp_right .inl
  case setcsr =>
    by_cases h : s.a.extractLsb' 16 16 ≠ 0
    · exact .inr (.inl (by show execSetcsr s = _; rw [execSetcsr, if_pos h]))
    · exact .inr (.inr ⟨rfl, by simpa using h, by show execSetcsr s = _; rw [execSetcsr, if_neg h]⟩)
  all_goals exact .inl ⟨_, rfl⟩

/-- What the port does: ReservedEncoding on a reserved word, otherwise the decoded command. -/
theorem executePort_cases (s : State) :
    (∃ e, decode s.cmd = .error e ∧ executePort s = .next (s.raise .reservedEncoding)) ∨
    ∃ i, decode s.cmd = .ok i ∧ executePort s = exec i s := by
  unfold executePort
  cases h : decode s.cmd with
  | error e => exact .inl ⟨e, rfl, rfl⟩
  | ok i => exact .inr ⟨i, rfl, rfl⟩

/-- What a turn does: nothing but take the turn, or put a requester's next command on the port. -/
theorem takeTurn_cases (s : State) :
    s.takeTurn = .idle { s with schedule := s.schedule.tail } ∨
    ∃ k ks c cs, s.schedule = k :: ks ∧ s.requesters[k]? = some (c :: cs) ∧
      s.takeTurn = .issued ({ s with requesters := s.requesters.set k cs, schedule := ks }.present c) := by
  unfold State.takeTurn
  cases hs : s.schedule with
  | nil => exact .inl (by cases s; simp_all)
  | cons k ks =>
    cases hq : s.requesters[k]? with
    | none => exact .inl (by simp [hq])
    | some q =>
      cases q with
      | nil => exact .inl (by simp [hq])
      | cons c cs => exact .inr ⟨k, ks, c, cs, rfl, by simp [hq], by simp [hq]⟩

/-- What a step does: take a turn that issues nothing, or execute the command that the turn puts on the port. -/
theorem step_cases (s : State) :
    step s = .next { s with schedule := s.schedule.tail } ∨
    ∃ k ks c cs, s.schedule = k :: ks ∧ s.requesters[k]? = some (c :: cs) ∧
      step s = executePort ({ s with requesters := s.requesters.set k cs, schedule := ks }.present c) := by
  unfold step
  obtain h | ⟨k, ks, c, cs, h1, h2, h3⟩ := takeTurn_cases s
  · exact .inl (by rw [h])
  · exact .inr ⟨k, ks, c, cs, h1, h2, by rw [h3]⟩

/-- The invariant speaks of CSR, ERR and R only. -/
theorem State.Inv_of_eq {s t : State} (hc : t.csr = s.csr) (he : t.err = s.err) (hr : t.r = s.r) (h : s.Inv) : t.Inv := by
  unfold State.Inv at *
  rwa [hc, he, hr]

theorem coreRun_succ_of_next (M : Host.Core) (n : Nat) {s t : M.State} (h : M.step s = .next t) :
    M.run (n + 1) s = M.run n t := by
  simp only [Host.Core.run, h]

theorem coreRun_succ_of_refused (M : Host.Core) (n : Nat) {s : M.State} {e : M.Refusal} (h : M.step s = .refused e) :
    M.run (n + 1) s = .refused e := by
  simp only [Host.Core.run, h]

/-- `runSteps` is the host's run of the machine. -/
theorem runSteps_eq_core_run (n : Nat) (s : State) : runSteps n s = Sys2Proof.core.run n s := by
  induction n generalizing s with
  | zero => rfl
  | succ n ih =>
    cases h : step s with
    | next t =>
      exact (by simp only [runSteps, h] : runSteps (n + 1) s = runSteps n t).trans
        ((ih t).trans (coreRun_succ_of_next Sys2Proof.core n h).symm)
    | fault f => exact f.rec
    | refused e =>
      exact (by simp only [runSteps, h] : runSteps (n + 1) s = .refused e).trans
        (coreRun_succ_of_refused Sys2Proof.core n h).symm

/-- A run of one step and more goes on from the step's next state. -/
theorem runSteps_succ_of_next {s t : State} (h : step s = .next t) (n : Nat) : runSteps (n + 1) s = runSteps n t := by
  simp only [runSteps, h]

end Sys2Proof.Machine
end

