-- ==== Sys2Proof/Laws/Word.lean ====
section
/-! SUPPORT. The spec lemmas of the word's fields and of the operation map. -/

namespace Sys2Proof

/-- Every bit of an assembled word (R71). -/
theorem getLsbD_assembleWord (w : Bool) (imm : Imm8) (op : BitVec 8) (j : Nat) :
    (assembleWord w imm op).getLsbD j =
      if j < 8 then op.getLsbD j else if j < 16 then imm.getLsbD (j - 8) else (decide (j = 16) && w) := by
  simp only [assembleWord, BitVec.getLsbD_or, BitVec.getLsbD_shiftLeft, BitVec.getLsbD_setWidth, BitVec.getLsbD_ofBool]
  by_cases h1 : j < 8
  · have : j < 32 ∧ j < 16 := by omega
    simp [h1, this]
  · have hop : op.getLsbD j = false := BitVec.getLsbD_of_ge op j (Nat.le_of_not_lt h1)
    by_cases h2 : j < 16
    · have : j < 32 ∧ j - 8 < 32 := by omega
      simp [h1, h2, hop, this]
    · have himm : imm.getLsbD (j - 8) = false := BitVec.getLsbD_of_ge imm _ (by omega)
      by_cases h3 : j = 16
      · subst h3; simp
      · have : ¬ j - 16 = 0 := by omega
        simp [h1, h2, h3, hop, himm, this]

@[simp] theorem opField_assembleWord (w : Bool) (imm : Imm8) (op : BitVec 8) : opField (assembleWord w imm op) = op := by
  apply BitVec.eq_of_getLsbD_eq
  intro j hj
  simp [opField, getLsbD_assembleWord, hj]

@[simp] theorem immField_assembleWord (w : Bool) (imm : Imm8) (op : BitVec 8) : immField (assembleWord w imm op) = imm := by
  apply BitVec.eq_of_getLsbD_eq
  intro j hj
  have : 8 + j < 16 := by omega
  simp [immField, getLsbD_assembleWord, hj, this]

@[simp] theorem widthField_assembleWord (w : Bool) (imm : Imm8) (op : BitVec 8) :
    widthField (assembleWord w imm op) = w := by
  rw [widthField, getLsbD_assembleWord]
  simp

@[simp] theorem rsvField_assembleWord (w : Bool) (imm : Imm8) (op : BitVec 8) : rsvField (assembleWord w imm op) = 0 := by
  apply BitVec.eq_of_getLsbD_eq
  intro j hj
  have h1 : ¬ 17 + j < 8 := by omega
  have h2 : ¬ 17 + j < 16 := by omega
  have h3 : ¬ 17 + j = 16 := by omega
  simp [rsvField, getLsbD_assembleWord, h1, h2, h3]

/-- A word is its fields (R60). -/
theorem word_eq_of_fields (w v : CommandWord) (h1 : opField w = opField v) (h2 : immField w = immField v)
    (h3 : widthField w = widthField v) (h4 : rsvField w = rsvField v) : w = v := by
  ext j hj
  have get : ∀ (s k : Nat) (x : CommandWord), s ≤ j → j < s + k → x[j] = (x.extractLsb' s k).getLsbD (j - s) := by
    intro s k x hs hk
    rw [BitVec.getLsbD_extractLsb', ← BitVec.getLsbD_eq_getElem]
    have hd : j - s < k := by omega
    have he : s + (j - s) = j := by omega
    simp [hd, he]
  by_cases c1 : j < 8
  · rw [get 0 8 w (by omega) (by omega), get 0 8 v (by omega) (by omega)]
    exact congrArg (fun x => x.getLsbD (j - 0)) h1
  · by_cases c2 : j < 16
    · rw [get 8 8 w (by omega) (by omega), get 8 8 v (by omega) (by omega)]
      exact congrArg (fun x => x.getLsbD (j - 8)) h2
    · by_cases c3 : j = 16
      · subst c3; exact h3
      · rw [get 17 15 w (by omega) (by omega), get 17 15 v (by omega) (by omega)]
        exact congrArg (fun x => x.getLsbD (j - 17)) h4

/-- Every operation is found by its code (R63). -/
@[simp] theorem Op.ofCode_code (o : Op) : Op.ofCode o.code = some o := by cases o <;> decide

/-- An operation found by a code has that code. -/
theorem Op.code_of_ofCode {c : BitVec 8} {o : Op} (h : Op.ofCode c = some o) : o.code = c := by
  have := List.find?_some h
  simpa using this

/-- What the decoder does with a word, by its checks in turn. -/
theorem decode_cases (w : CommandWord) :
    (rsvField w ≠ 0 ∧ decode w = .error .rsvNonzero) ∨
    (rsvField w = 0 ∧ Op.ofCode (opField w) = none ∧ decode w = .error .opUnassigned) ∨
    ∃ o, rsvField w = 0 ∧ Op.ofCode (opField w) = some o ∧
      ((o.immUse = .mustBeZero ∧ immField w ≠ 0 ∧ decode w = .error .immNonzero) ∨
       (¬(o.immUse = .mustBeZero ∧ immField w ≠ 0) ∧ o.instr (widthField w) (immField w) = none ∧
          decode w = .error .widthIllegal) ∨
       ∃ i, ¬(o.immUse = .mustBeZero ∧ immField w ≠ 0) ∧ o.instr (widthField w) (immField w) = some i ∧ decode w = .ok i) := by
  unfold decode
  by_cases h1 : rsvField w ≠ 0
  · exact .inl ⟨h1, if_pos h1⟩
  · have h1' : rsvField w = 0 := Classical.not_not.mp h1
    refine .inr ?_
    rw [if_neg h1]
    cases h2 : Op.ofCode (opField w) with
    | none => exact .inl ⟨h1', rfl, rfl⟩
    | some o =>
      refine .inr ⟨o, h1', rfl, ?_⟩
      by_cases h3 : o.immUse = .mustBeZero ∧ immField w ≠ 0
      · exact .inl ⟨h3.1, h3.2, if_pos h3⟩
      · refine .inr ?_
        cases h4 : o.instr (widthField w) (immField w) with
        | none => exact .inl ⟨h3, rfl, by simp only [if_neg h3, h4]⟩
        | some i => exact .inr ⟨i, h3, rfl, by simp only [if_neg h3, h4]⟩

end Sys2Proof
end

