-- ==== Sys2Proof/Laws/PerInstr.lean ====
section
/-! SUPPORT. The lemma families that are stated for every instruction. -/

namespace Sys2Proof.Laws.UnreservedWord

/-- The word of the instruction passes every check of R64. -/
def Statement (i : Instr) : Prop := reservedWord (encode i) = false

/-- R64's check of an assembled word looks at its OP, its width and its immediate alone, since RSV is zero (R71). -/
theorem reservedWord_assembleWord (w : Bool) (imm : Imm8) (op : BitVec 8) :
    reservedWord (assembleWord w imm op) =
      (!(([0x10, 0x11, 0x12, 0x13, 0x14, 0x15, 0x16, 0x17,
           0x20, 0x21, 0x22, 0x23, 0x28, 0x29, 0x2A, 0x2B, 0x2C, 0x2D, 0x2E, 0x2F,
           0x30, 0x31, 0x32, 0x33, 0x40, 0x41, 0x50, 0x51] : List (BitVec 8)).contains op)
      || (w && ([0x32, 0x33, 0x50, 0x51] : List (BitVec 8)).contains op)
      || (imm != 0 && !(([0x30, 0x31, 0x32, 0x33, 0x40] : List (BitVec 8)).contains op))) := by
  simp only [reservedWord, opField_assembleWord, immField_assembleWord, widthField_assembleWord, rsvField_assembleWord]
  rfl

theorem paddsb128 : Statement .paddsb128 := reservedWord_assembleWord _ _ _

theorem paddsb256 : Statement .paddsb256 := reservedWord_assembleWord _ _ _

theorem paddsw128 : Statement .paddsw128 := reservedWord_assembleWord _ _ _

theorem paddsw256 : Statement .paddsw256 := reservedWord_assembleWord _ _ _

theorem paddusb128 : Statement .paddusb128 := reservedWord_assembleWord _ _ _

theorem paddusb256 : Statement .paddusb256 := reservedWord_assembleWord _ _ _

theorem paddusw128 : Statement .paddusw128 := reservedWord_assembleWord _ _ _

theorem paddusw256 : Statement .paddusw256 := reservedWord_assembleWord _ _ _

theorem psubsb128 : Statement .psubsb128 := reservedWord_assembleWord _ _ _

theorem psubsb256 : Statement .psubsb256 := reservedWord_assembleWord _ _ _

theorem psubsw128 : Statement .psubsw128 := reservedWord_assembleWord _ _ _

theorem psubsw256 : Statement .psubsw256 := reservedWord_assembleWord _ _ _

theorem psubusb128 : Statement .psubusb128 := reservedWord_assembleWord _ _ _

theorem psubusb256 : Statement .psubusb256 := reservedWord_assembleWord _ _ _

theorem psubusw128 : Statement .psubusw128 := reservedWord_assembleWord _ _ _

theorem psubusw256 : Statement .psubusw256 := reservedWord_assembleWord _ _ _

theorem packsswb128 : Statement .packsswb128 := reservedWord_assembleWord _ _ _

theorem packsswb256 : Statement .packsswb256 := reservedWord_assembleWord _ _ _

theorem packuswb128 : Statement .packuswb128 := reservedWord_assembleWord _ _ _

theorem packuswb256 : Statement .packuswb256 := reservedWord_assembleWord _ _ _

theorem packssdw128 : Statement .packssdw128 := reservedWord_assembleWord _ _ _

theorem packssdw256 : Statement .packssdw256 := reservedWord_assembleWord _ _ _

theorem packusdw128 : Statement .packusdw128 := reservedWord_assembleWord _ _ _

theorem packusdw256 : Statement .packusdw256 := reservedWord_assembleWord _ _ _

theorem punpcklbw128 : Statement .punpcklbw128 := reservedWord_assembleWord _ _ _

theorem punpcklbw256 : Statement .punpcklbw256 := reservedWord_assembleWord _ _ _

theorem punpckhbw128 : Statement .punpckhbw128 := reservedWord_assembleWord _ _ _

theorem punpckhbw256 : Statement .punpckhbw256 := reservedWord_assembleWord _ _ _

theorem punpcklwd128 : Statement .punpcklwd128 := reservedWord_assembleWord _ _ _

theorem punpcklwd256 : Statement .punpcklwd256 := reservedWord_assembleWord _ _ _

theorem punpckhwd128 : Statement .punpckhwd128 := reservedWord_assembleWord _ _ _

theorem punpckhwd256 : Statement .punpckhwd256 := reservedWord_assembleWord _ _ _

theorem punpckldq128 : Statement .punpckldq128 := reservedWord_assembleWord _ _ _

theorem punpckldq256 : Statement .punpckldq256 := reservedWord_assembleWord _ _ _

theorem punpckhdq128 : Statement .punpckhdq128 := reservedWord_assembleWord _ _ _

theorem punpckhdq256 : Statement .punpckhdq256 := reservedWord_assembleWord _ _ _

theorem punpcklqdq128 : Statement .punpcklqdq128 := reservedWord_assembleWord _ _ _

theorem punpcklqdq256 : Statement .punpcklqdq256 := reservedWord_assembleWord _ _ _

theorem punpckhqdq128 : Statement .punpckhqdq128 := reservedWord_assembleWord _ _ _

theorem punpckhqdq256 : Statement .punpckhqdq256 := reservedWord_assembleWord _ _ _

theorem cmpps128 (p : Imm8) : Statement (.cmpps128 p) :=
  (reservedWord_assembleWord _ p _).trans (Bool.and_false _)

theorem cmpps256 (p : Imm8) : Statement (.cmpps256 p) :=
  (reservedWord_assembleWord _ p _).trans (Bool.and_false _)

theorem cmppd128 (p : Imm8) : Statement (.cmppd128 p) :=
  (reservedWord_assembleWord _ p _).trans (Bool.and_false _)

theorem cmppd256 (p : Imm8) : Statement (.cmppd256 p) :=
  (reservedWord_assembleWord _ p _).trans (Bool.and_false _)

theorem cmpss (p : Imm8) : Statement (.cmpss p) :=
  (reservedWord_assembleWord _ p _).trans (Bool.and_false _)

theorem cmpsd (p : Imm8) : Statement (.cmpsd p) :=
  (reservedWord_assembleWord _ p _).trans (Bool.and_false _)

theorem vcvtps2ph128 (sel : Imm8) : Statement (.vcvtps2ph128 sel) :=
  (reservedWord_assembleWord _ sel _).trans (Bool.and_false _)

theorem vcvtps2ph256 (sel : Imm8) : Statement (.vcvtps2ph256 sel) :=
  (reservedWord_assembleWord _ sel _).trans (Bool.and_false _)

theorem vcvtph2ps128 : Statement .vcvtph2ps128 := reservedWord_assembleWord _ _ _

theorem vcvtph2ps256 : Statement .vcvtph2ps256 := reservedWord_assembleWord _ _ _

theorem getcsr : Statement .getcsr := reservedWord_assembleWord _ _ _

theorem setcsr : Statement .setcsr := reservedWord_assembleWord _ _ _

end Sys2Proof.Laws.UnreservedWord
end

