-- ==== Sys2Proof/Laws/Relation.lean ====
section
/-! SUPPORT. The spec lemmas of the compare relation and of the clamp. -/

namespace Sys2Proof.Machine

/-- The relation with its operands exchanged. -/
def Relation.swap : Relation → Relation
  | .lt => .gt
  | .eq => .eq
  | .gt => .lt
  | .un => .un

/-- When the relation is unordered (R171). -/
theorem rel_eq_un_iff (fmt : FloatFormat) {n : Nat} (a b : BitVec n) :
    rel fmt a b = .un ↔ (isNaN fmt a || isNaN fmt b) = true := by
  unfold rel
  split
  · simp_all
  · split
    · simp_all
    · split <;> simp_all

/-- Exchanging the operands exchanges LT and GT (R173's greater-than family rests on it). -/
theorem rel_swap (fmt : FloatFormat) {n : Nat} (a b : BitVec n) : rel fmt b a = (rel fmt a b).swap := by
  unfold rel
  rw [Bool.or_comm]
  by_cases hn : (isNaN fmt a || isNaN fmt b) = true
  · simp [hn, Relation.swap]
  · simp only [hn]
    rcases lt_trichotomy (scaledVal fmt a) (scaledVal fmt b) with h | h | h
    · simp [h, h.ne', not_lt.mpr h.le, Relation.swap]
    · simp [h, Relation.swap]
    · simp [h, h.ne', not_lt.mpr h.le, Relation.swap]

/-- The clamp is the middle value of the three where the bounds are in order. -/
theorem clamp_eq_max_min (x lo hi : Int) (h : lo ≤ hi) : clamp x lo hi = max lo (min hi x) := by
  unfold clamp
  split
  · omega
  · split <;> omega

/-- The bounds of every target type are in order (R100). -/
theorem SatType.lo_le_hi (t : SatType) : t.lo ≤ t.hi := by cases t <;> decide

end Sys2Proof.Machine
end

