-- ==== Sys2Proof/Tests/Slice0.lean ====
section
/-! SUPPORT. The model's own tests, each on one word or one step, with expected values from spec/95_test_vectors.md or worked by
hand from the rule it names; and, for every statement with hypotheses, a witness that meets them. -/

open Sys2Proof Sys2Proof.Machine Sys2Proof.Claims

namespace Sys2Proof.Tests

/-! ### The checks on syntax (WellFormed.lean, R64) -/

theorem test_wellFormed_refuses_predicate_above_range :
    (Instr.cmpps128 0x20).wellFormed = false ∧ (Instr.cmpps256 0xFF).wellFormed = false ∧
    (Instr.cmppd128 0x20).wellFormed = false ∧ (Instr.cmppd256 0x80).wellFormed = false ∧
    (Instr.cmpss 0x20).wellFormed = false ∧ (Instr.cmpsd 0x21).wellFormed = false ∧
    (Instr.cmpps128 0x1F).wellFormed = true := by decide

theorem test_wellFormed_refuses_selector_above_range :
    (Instr.vcvtps2ph128 0x10).wellFormed = false ∧ (Instr.vcvtps2ph256 0x80).wellFormed = false ∧
    (Instr.vcvtps2ph128 0x0F).wellFormed = true := by decide

/-- One reserved word for each condition of R64 (95_test_vectors.md section 7). -/
theorem test_reserved_words_are_refused_by_name :
    decode 0x00020010 = .error .rsvNonzero ∧ decode 0x00000000 = .error .opUnassigned ∧
    decode 0x000000FF = .error .opUnassigned ∧ decode 0x00000110 = .error .immNonzero ∧
    decode 0x00000141 = .error .immNonzero ∧ decode 0x00010050 = .error .widthIllegal ∧
    decode 0x00012032 = .error .widthIllegal := by decide

/-! ### Decoding: every constructor's word, from R63's table and R60's fields -/

theorem test_decode_add_sub :
    decode 0x00000010 = .ok .paddsb128 ∧ decode 0x00010010 = .ok .paddsb256 ∧
    decode 0x00000011 = .ok .paddsw128 ∧ decode 0x00010011 = .ok .paddsw256 ∧
    decode 0x00000012 = .ok .paddusb128 ∧ decode 0x00010012 = .ok .paddusb256 ∧
    decode 0x00000013 = .ok .paddusw128 ∧ decode 0x00010013 = .ok .paddusw256 ∧
    decode 0x00000014 = .ok .psubsb128 ∧ decode 0x00010014 = .ok .psubsb256 ∧
    decode 0x00000015 = .ok .psubsw128 ∧ decode 0x00010015 = .ok .psubsw256 ∧
    decode 0x00000016 = .ok .psubusb128 ∧ decode 0x00010016 = .ok .psubusb256 ∧
    decode 0x00000017 = .ok .psubusw128 ∧ decode 0x00010017 = .ok .psubusw256 := by decide

theorem test_decode_pack :
    decode 0x00000020 = .ok .packsswb128 ∧ decode 0x00010020 = .ok .packsswb256 ∧
    decode 0x00000021 = .ok .packuswb128 ∧ decode 0x00010021 = .ok .packuswb256 ∧
    decode 0x00000022 = .ok .packssdw128 ∧ decode 0x00010022 = .ok .packssdw256 ∧
    decode 0x00000023 = .ok .packusdw128 ∧ decode 0x00010023 = .ok .packusdw256 := by decide

theorem test_decode_unpack :
    decode 0x00000028 = .ok .punpcklbw128 ∧ decode 0x00010028 = .ok .punpcklbw256 ∧
    decode 0x00000029 = .ok .punpckhbw128 ∧ decode 0x00010029 = .ok .punpckhbw256 ∧
    decode 0x0000002A = .ok .punpcklwd128 ∧ decode 0x0001002A = .ok .punpcklwd256 ∧
    decode 0x0000002B = .ok .punpckhwd128 ∧ decode 0x0001002B = .ok .punpckhwd256 ∧
    decode 0x0000002C = .ok .punpckldq128 ∧ decode 0x0001002C = .ok .punpckldq256 ∧
    decode 0x0000002D = .ok .punpckhdq128 ∧ decode 0x0001002D = .ok .punpckhdq256 ∧
    decode 0x0000002E = .ok .punpcklqdq128 ∧ decode 0x0001002E = .ok .punpcklqdq256 ∧
    decode 0x0000002F = .ok .punpckhqdq128 ∧ decode 0x0001002F = .ok .punpckhqdq256 := by decide

theorem test_decode_compare :
    decode 0x00000030 = .ok (.cmpps128 0x00) ∧ decode 0x00010D30 = .ok (.cmpps256 0x0D) ∧
    decode 0x00000831 = .ok (.cmppd128 0x08) ∧ decode 0x00011F31 = .ok (.cmppd256 0x1F) ∧
    decode 0x00002032 = .ok (.cmpss 0x20) ∧ decode 0x00000433 = .ok (.cmpsd 0x04) := by decide

theorem test_decode_convert :
    decode 0x00000C40 = .ok (.vcvtps2ph128 0x0C) ∧ decode 0x00011040 = .ok (.vcvtps2ph256 0x10) ∧
    decode 0x00000041 = .ok .vcvtph2ps128 ∧ decode 0x00010041 = .ok .vcvtph2ps256 := by decide

theorem test_decode_csr :
    decode 0x00000050 = .ok .getcsr ∧ decode 0x00000051 = .ok .setcsr := by decide

theorem test_decodeTableWord_reads_the_row :
    decodeTableWord 32 0x00010D30 = some (.cmpps256 0x0D) ∧ decodeTableWord 32 0x00010032 = none := by decide

/-! ### One step of each operation -/

/-- What one step answers on R, ERR and CSR, from reset with this CSR, for a command with these operands. -/
def outcomeOf (w : CommandWord) (a b : Vec256) (csr : CsrWord) : Option (Vec256 × ErrCode × CsrWord) :=
  match step (({ State.reset with csr := csr } : State).submitFirst { cmd := w, a := a, b := b }) with
  | .next t => some (t.r, t.err, t.csr)
  | .fault _ => none
  | .refused _ => none

/-- The step gives this result, no error, and leaves CSR at its reset value. -/
def gives (w : CommandWord) (a b r : Vec256) : Bool := outcomeOf w a b 0x1F80 == some (r, 0, 0x1F80)

/-- 95_test_vectors.md 2.1. -/
theorem test_paddsb :
    gives 0x10 0x00019C640FF0807F1000C040FF01807F 0xFF029C64F00F01FF2000C040017FFF01
      0xFF03807FFFFF817E3000807F007F807F = true := by decide

/-- 95_test_vectors.md 2.2. -/
theorem test_paddsw :
    gives 0x11 0x00001234C0004000FFFF000180007FFF 0xFFFF4321C000400000017FFF80000001
      0xFFFF555580007FFF00007FFF80007FFF = true := by decide

/-- 95_test_vectors.md 2.1. -/
theorem test_paddusb :
    gives 0x12 0x00019C640FF0807F1000C040FF01807F 0xFF029C64F00F01FF2000C040017FFF01
      0xFF03FFC8FFFF81FF3000FF80FF80FF80 = true := by decide

/-- 95_test_vectors.md 2.2. -/
theorem test_paddusw :
    gives 0x13 0x00001234C0004000FFFF000180007FFF 0xFFFF4321C000400000017FFF80000001
      0xFFFF5555FFFF8000FFFF8000FFFF8000 = true := by decide

/-- 95_test_vectors.md 2.3: the halves stay apart. -/
theorem test_psubsb_wide :
    gives 0x10014 0xFF029C64F00F01FF2000C040017FFF0100019C640FF0807F1000C040FF01807F 0x00019C640FF0807F1000C040FF01807FFF029C64F00F01FF2000C040017FFF01
      0xFF010000E11F7F8010000000027E7F8201FF00001FE1807FF0000000FE82817E = true := by decide

/-- 95_test_vectors.md 2.2. -/
theorem test_psubsw :
    gives 0x15 0x00001234C0004000FFFF000180007FFF 0xFFFF4321C000400000017FFF80000001
      0x0001CF1300000000FFFE800200007FFE = true := by decide

/-- 95_test_vectors.md 2.1. -/
theorem test_psubusb :
    gives 0x16 0x00019C640FF0807F1000C040FF01807F 0xFF029C64F00F01FF2000C040017FFF01
      0x0000000000E17F0000000000FE00007E = true := by decide

/-- 95_test_vectors.md 2.2. -/
theorem test_psubusw :
    gives 0x17 0x00001234C0004000FFFF000180007FFF 0xFFFF4321C000400000017FFF80000001
      0x0000000000000000FFFE000000007FFE = true := by decide

/-- 95_test_vectors.md 3.1: each half packs its own lanes. -/
theorem test_packsswb_wide :
    gives 0x10020 0x0002EDCC1234FFC00040FFFF010000FF00017FFF8000FF7FFF800080007F0000 0x00017FFF8000FF7FFF800080007F00000002EDCC1234FFC00040FFFF010000FF
      0x017F8080807F7F0002807FC040FF7F7F02807FC040FF7F7F017F8080807F7F00 = true := by decide

/-- 95_test_vectors.md 3.1. -/
theorem test_packuswb :
    gives 0x21 0x00017FFF8000FF7FFF800080007F0000 0x0002EDCC1234FFC00040FFFF010000FF
      0x0200FF004000FFFF01FF000000807F00 = true := by decide

/-- 95_test_vectors.md 3.1. -/
theorem test_packssdw :
    gives 0x22 0xFFFF80000000800000007FFF00000000 0x0000FFFF800000007FFFFFFFFFFF7FFF
      0x7FFF80007FFF800080007FFF7FFF0000 = true := by decide

/-- 95_test_vectors.md 3.1. -/
theorem test_packusdw :
    gives 0x23 0xFFFF80000000800000007FFF00000000 0x0000FFFF800000007FFFFFFFFFFF7FFF
      0xFFFF0000FFFF0000000080007FFF0000 = true := by decide

/-- 95_test_vectors.md 3.2. -/
theorem test_punpckbw :
    gives 0x10028 0xAFAEADACABAAA9A8A7A6A5A4A3A2A1A00F0E0D0C0B0A09080706050403020100 0x0F0E0D0C0B0A09080706050403020100AFAEADACABAAA9A8A7A6A5A4A3A2A1A0
      0x07A706A605A504A403A302A201A100A0A707A606A505A404A303A202A101A000 = true ∧
    gives 0x29 0x0F0E0D0C0B0A09080706050403020100 0xAFAEADACABAAA9A8A7A6A5A4A3A2A1A0
      0xAF0FAE0EAD0DAC0CAB0BAA0AA909A808 = true := by decide

/-- 95_test_vectors.md 3.2. -/
theorem test_punpckwd :
    gives 0x2A 0x0F0E0D0C0B0A09080706050403020100 0xAFAEADACABAAA9A8A7A6A5A4A3A2A1A0
      0xA7A60706A5A40504A3A20302A1A00100 = true ∧
    gives 0x2B 0x0F0E0D0C0B0A09080706050403020100 0xAFAEADACABAAA9A8A7A6A5A4A3A2A1A0
      0xAFAE0F0EADAC0D0CABAA0B0AA9A80908 = true := by decide

/-- 95_test_vectors.md 3.2. -/
theorem test_punpckdq :
    gives 0x2C 0x0F0E0D0C0B0A09080706050403020100 0xAFAEADACABAAA9A8A7A6A5A4A3A2A1A0
      0xA7A6A5A407060504A3A2A1A003020100 = true ∧
    gives 0x2D 0x0F0E0D0C0B0A09080706050403020100 0xAFAEADACABAAA9A8A7A6A5A4A3A2A1A0
      0xAFAEADAC0F0E0D0CABAAA9A80B0A0908 = true := by decide

/-- 95_test_vectors.md 3.2. -/
theorem test_punpckqdq :
    gives 0x2E 0x0F0E0D0C0B0A09080706050403020100 0xAFAEADACABAAA9A8A7A6A5A4A3A2A1A0
      0xA7A6A5A4A3A2A1A00706050403020100 = true ∧
    gives 0x2F 0x0F0E0D0C0B0A09080706050403020100 0xAFAEADACABAAA9A8A7A6A5A4A3A2A1A0
      0xAFAEADACABAAA9A80F0E0D0C0B0A0908 = true := by decide

/-- 95_test_vectors.md 4.2 and P3: GE_OS, NLT_UQ. -/
theorem test_cmpps_wide :
    gives 0x10D30 0x3F8000007F800001FF800000404000007F800000800000007FC000003F800000 0x000000017FC0000040A00000400000007F800000000000003F80000040000000
      0xFFFFFFFF0000000000000000FFFFFFFFFFFFFFFFFFFFFFFF0000000000000000 = true ∧
    gives 0x1530 0x7F800000800000007FC000003F800000 0x7F800000000000003F80000040000000
      0xFFFFFFFFFFFFFFFFFFFFFFFF00000000 = true := by decide

/-- 95_test_vectors.md 4.2: −0 EQ +0, a signalling NaN is unordered. -/
theorem test_cmppd :
    gives 0x31 0x7FF00000000000008000000000000000 0x7FF00000000000010000000000000000
      0x0000000000000000FFFFFFFFFFFFFFFF = true := by decide

/-- 95_test_vectors.md 4.2. -/
theorem test_cmpss :
    gives 0x32 0x4080000040400000400000003F800000 0x4110000041100000411000003F800000
      0x408000004040000040000000FFFFFFFF = true := by decide

/-- 95_test_vectors.md 4.2. -/
theorem test_cmpsd :
    gives 0x433 0x40140000000000007FF8000000000000 0x401C0000000000003FF0000000000000
      0x4014000000000000FFFFFFFFFFFFFFFF = true := by decide

/-- 95_test_vectors.md 6, and P1 step 3: the ambient mode is up. -/
theorem test_vcvtps2ph :
    gives 0x840 0x3DCCCCCD477FE000C00000003F800000 0
      0x2E667BFFC0003C00 = true ∧
    outcomeOf 0xC40 0x3F800000477FF000BDCCCCCD3DCCCCCD 0 0x5F80
      = some (0x3C007C00AE662E67, 0, 0x5F80) := by decide

/-- 95_test_vectors.md P4 step 1. -/
theorem test_vcvtph2ps_wide :
    gives 0x10041 0x355580007E00FC007BFF3C0003FF0001 0
      0x3EAAA000800000007FC00000FF800000477FE0003F800000387FC00033800000 = true := by decide

/-- 95_test_vectors.md 6. -/
theorem test_f2h_ties_and_edges :
    f2h 0x33000000 .rne = 0x0000 ∧ f2h 0x33000000 .ru = 0x0001 ∧ f2h 0x3F803000 .rne = 0x3C02 ∧
    f2h 0x387FE000 .rne = 0x0400 ∧ f2h 0xC77FF000 .rd = 0xFC00 ∧ f2h 0xC77FF000 .ru = 0xFBFF ∧
    f2h 0x7F800001 .rz = 0x7E00 ∧ f2h 0x7FA00000 .rne = 0x7F00 := by decide

/-- The spot values of R234. -/
theorem test_half_tables :
    baseTable 0x067 = 0x0001 ∧ shiftTable 0x067 = 23 ∧ baseTable 0x070 = 0x0200 ∧ shiftTable 0x070 = 14 ∧
    baseTable 0x08F = 0x7C00 ∧ shiftTable 0x08F = 24 ∧ baseTable 0x17F = 0xBC00 ∧ shiftTable 0x000 = 24 := by decide

/-- 95_test_vectors.md 7. -/
theorem test_getcsr :
    outcomeOf 0x50 7 7 0x1F80 = some (0x1F80, 0, 0x1F80) := by decide

/-- 95_test_vectors.md 7. -/
theorem test_setcsr :
    outcomeOf 0x51 0x5F80 0 0x1F80 = some (0, 0, 0x5F80) ∧
    outcomeOf 0x51 0x10000 0 0x1F80 = some (0, 1, 0x1F80) := by decide

/-- 95_test_vectors.md 7: InvalidArgument, ReservedEncoding, and its priority. -/
theorem test_errors :
    outcomeOf 0x2030 5 6 0x1F80 = some (0, 1, 0x1F80) ∧ outcomeOf 0x1040 5 6 0x1F80 = some (0, 1, 0x1F80) ∧
    outcomeOf 0x12032 5 6 0x1F80 = some (0, 2, 0x1F80) ∧ outcomeOf 0 5 6 0x1F80 = some (0, 2, 0x1F80) := by decide

/-- R42. -/
theorem test_set_and_setr :
    (setLanes 32 8 [0x44, 0x33, 0x22, 0x11] : BitVec 32) = 0x44332211 ∧
    (setrLanes 32 8 [0x44, 0x33, 0x22, 0x11] : BitVec 32) = 0x11223344 := by decide

/-- The host's way in: GETCSR as the first command after reset. -/
theorem test_withFetchWord_runs_the_word :
    (match step (State.reset.withFetchWord 32 0x00000050) with
      | .next t => t == { State.reset with cmd := 0x50, r := 0x1F80 }
      | .fault _ => false
      | .refused _ => false) = true := by decide

/-! ### The hypotheses of the statements can be met -/

theorem witness_PaddsbAndPaddswSaturateEveryLane :
    opField 0x10 = 0x10 ∧ opField 0x00010010 = 0x10 ∧ opField 0x00000110 = 0x10 ∧
    opField 0x11 = 0x11 ∧ opField 0x00010011 = 0x11 ∧ opField 0x00000111 = 0x11 ∧
    0 < 16 ∧ 15 < 16 := by decide

theorem witness_PaddusbAndPadduswSaturateEveryLane :
    opField 0x12 = 0x12 ∧ opField 0x00010012 = 0x12 ∧ opField 0x00000112 = 0x12 ∧
    opField 0x13 = 0x13 ∧ opField 0x00010013 = 0x13 ∧ opField 0x00000113 = 0x13 ∧
    0 < 16 ∧ 15 < 16 := by decide

theorem witness_PsubsbAndPsubswSaturateEveryLane :
    opField 0x14 = 0x14 ∧ opField 0x00010014 = 0x14 ∧ opField 0x00000114 = 0x14 ∧
    opField 0x15 = 0x15 ∧ opField 0x00010015 = 0x15 ∧ opField 0x00000115 = 0x15 ∧
    0 < 16 ∧ 15 < 16 := by decide

theorem witness_PsubusbAndPsubuswSaturateEveryLane :
    opField 0x16 = 0x16 ∧ opField 0x00010016 = 0x16 ∧ opField 0x00000116 = 0x16 ∧
    opField 0x17 = 0x17 ∧ opField 0x00010017 = 0x17 ∧ opField 0x00000117 = 0x17 ∧
    0 < 16 ∧ 15 < 16 := by decide

theorem witness_PacksswbAndPackuswbNarrowEachHalf :
    opField 0x20 = 0x20 ∧ opField 0x00010020 = 0x20 ∧ opField 0x00000120 = 0x20 ∧
    opField 0x21 = 0x21 ∧ opField 0x00010021 = 0x21 ∧ opField 0x00000121 = 0x21 ∧
    0 < 8 ∧ 7 < 8 := by decide

theorem witness_PackssdwAndPackusdwNarrowEachHalf :
    opField 0x22 = 0x22 ∧ opField 0x00010022 = 0x22 ∧ opField 0x00000122 = 0x22 ∧
    opField 0x23 = 0x23 ∧ opField 0x00010023 = 0x23 ∧ opField 0x00000123 = 0x23 ∧
    0 < 4 ∧ 3 < 4 := by decide

theorem witness_PunpckBwInterleavesLowAndHigh :
    opField 0x28 = 0x28 ∧ opField 0x00010028 = 0x28 ∧ opField 0x00000128 = 0x28 ∧
    opField 0x29 = 0x29 ∧ opField 0x00010029 = 0x29 ∧ opField 0x00000129 = 0x29 ∧
    0 < 8 ∧ 7 < 8 := by decide

theorem witness_PunpckWdInterleavesLowAndHigh :
    opField 0x2A = 0x2A ∧ opField 0x0001002A = 0x2A ∧ opField 0x0000012A = 0x2A ∧
    opField 0x2B = 0x2B ∧ opField 0x0001002B = 0x2B ∧ opField 0x0000012B = 0x2B ∧
    0 < 4 ∧ 3 < 4 := by decide

theorem witness_PunpckDqInterleavesLowAndHigh :
    opField 0x2C = 0x2C ∧ opField 0x0001002C = 0x2C ∧ opField 0x0000012C = 0x2C ∧
    opField 0x2D = 0x2D ∧ opField 0x0001002D = 0x2D ∧ opField 0x0000012D = 0x2D ∧
    0 < 2 ∧ 1 < 2 := by decide

theorem witness_PunpckQdqInterleavesLowAndHigh :
    opField 0x2E = 0x2E ∧ opField 0x0001002E = 0x2E ∧ opField 0x0000012E = 0x2E ∧
    opField 0x2F = 0x2F ∧ opField 0x0001002F = 0x2F ∧ opField 0x0000012F = 0x2F ∧
    0 < 1 ∧ 0 < 1 := by decide

theorem witness_Vcvtph2psConvertsEveryLane :
    opField 0x41 = 0x41 ∧ opField 0x00010041 = 0x41 ∧ opField 0x00000141 = 0x41 ∧
    0 < 4 ∧ 3 < 4 := by decide

theorem witness_CmppsMasksEveryLane :
    (opField 0x30 = 0x30 ∧ (0x30#32).extractLsb' 16 16 = 0) ∧
    (opField 0x00010030 = 0x30 ∧ (0x00010030#32).extractLsb' 16 16 = 1) ∧
    (opField 0x00020030 = 0x30 ∧ (0x00020030#32).extractLsb' 16 16 = 2) ∧
    (0x1F#8).toNat ≤ 0x1F ∧ ¬ (0x20#8).toNat ≤ 0x1F := by decide

theorem witness_CmppdMasksEveryLane :
    (opField 0x31 = 0x31 ∧ (0x31#32).extractLsb' 16 16 = 0) ∧
    (opField 0x00010031 = 0x31 ∧ (0x00010031#32).extractLsb' 16 16 = 1) ∧
    (opField 0x00020031 = 0x31 ∧ (0x00020031#32).extractLsb' 16 16 = 2) ∧
    (0x1F#8).toNat ≤ 0x1F ∧ ¬ (0x20#8).toNat ≤ 0x1F := by decide

theorem witness_CmpssSplicesLowLane :
    (opField 0x32 = 0x32 ∧ (0x32#32).extractLsb' 16 16 = 0) ∧
    (opField 0x00010032 = 0x32 ∧ (0x00010032#32).extractLsb' 16 16 = 1) ∧
    (opField 0x00020032 = 0x32 ∧ (0x00020032#32).extractLsb' 16 16 = 2) ∧
    (0x1F#8).toNat ≤ 0x1F ∧ ¬ (0x20#8).toNat ≤ 0x1F := by decide

theorem witness_CmpsdSplicesLowLane :
    (opField 0x33 = 0x33 ∧ (0x33#32).extractLsb' 16 16 = 0) ∧
    (opField 0x00010033 = 0x33 ∧ (0x00010033#32).extractLsb' 16 16 = 1) ∧
    (opField 0x00020033 = 0x33 ∧ (0x00020033#32).extractLsb' 16 16 = 2) ∧
    (0x1F#8).toNat ≤ 0x1F ∧ ¬ (0x20#8).toNat ≤ 0x1F := by decide

theorem witness_Vcvtps2phConvertsEveryLane :
    (opField 0x40 = 0x40 ∧ (0x40#32).extractLsb' 16 16 = 0) ∧
    (opField 0x00010040 = 0x40 ∧ (0x00010040#32).extractLsb' 16 16 = 1) ∧
    (opField 0x00020040 = 0x40 ∧ (0x00020040#32).extractLsb' 16 16 = 2) ∧
    (0x0F#8).toNat < 0x10 ∧ ¬ (0x10#8).toNat < 0x10 := by decide

theorem witness_RelationFollowsExactValues :
    (NaN32 0x7F800001 ∧ ¬ NaN32 0x7F800000 ∧ ¬ NaN32 0x80000000) ∧
    NaN64 0x7FF0000000000001 ∧ ¬ NaN64 0x7FF0000000000000 ∧ ¬ NaN64 0x8000000000000000 := by
  unfold NaN32 NaN64; decide

theorem witness_CompositionsAgreeWithTable :
    PredicateRow.mk .trueUS true true true true ∈ predicateTable := by decide

theorem witness_SignallingMarkChangesNothing :
    (0x0F#8).toNat < 0x10 := by decide

theorem witness_HalfDecodeIsExact :
    (¬ NaN16 0x0001 ∧ isInf binary16 (0x0001#16) = false) ∧ ¬ NaN16 0xFC00 ∧ isInf binary16 (0xFC00#16) = true := by
  unfold NaN16; decide

theorem witness_HalfDecodeKeepsNaNPayload :
    NaN16 0x7C01 ∧ NaN16 0xFFFF := by
  unfold NaN16; decide

theorem witness_HalfEncodeSpecialInputs :
    NaN32 0x7F800001 ∧ NaN32 0xFFFFFFFF := by
  unfold NaN32; decide

theorem witness_HalfEncodeDenormalInputs :
    ((0x00000001#32).extractLsb' 23 8 = 0 ∧ (0x00000001#32).extractLsb' 0 23 ≠ 0 ∧ (0x00000001#32).getLsbD 31 = false) ∧
    (0x807FFFFF#32).extractLsb' 23 8 = 0 ∧ (0x807FFFFF#32).extractLsb' 0 23 ≠ 0 ∧ (0x807FFFFF#32).getLsbD 31 = true := by decide

/-- 65520 and −65520, 2^−149's neighbours of 1, and the greatest negative float32: values worked from R12. -/
theorem floatVal_samples :
    floatVal binary32 0x477FF000#32 = 65520 ∧ floatVal binary32 0xC77FF000#32 = -65520 ∧
    floatVal binary32 0x477FE000#32 = 65504 ∧ floatVal binary32 0x3F800000#32 = 1 ∧
    floatVal binary32 0x3F801000#32 = 1 + 1 / 2048 ∧ floatVal binary16 0x3C00#16 = 1 ∧
    floatVal binary16 0x3C01#16 = 1 + 1 / 1024 ∧ floatVal binary16 0#16 = 0 := by
  have e1 : expOf binary32 0x477FF000#32 = 142 ∧ fracOf binary32 0x477FF000#32 = 0x7FF000 ∧ signOf binary32 0x477FF000#32 = false := by decide
  have e2 : expOf binary32 0xC77FF000#32 = 142 ∧ fracOf binary32 0xC77FF000#32 = 0x7FF000 ∧ signOf binary32 0xC77FF000#32 = true := by decide
  have e3 : expOf binary32 0x477FE000#32 = 142 ∧ fracOf binary32 0x477FE000#32 = 0x7FE000 ∧ signOf binary32 0x477FE000#32 = false := by decide
  have e4 : expOf binary32 0x3F800000#32 = 127 ∧ fracOf binary32 0x3F800000#32 = 0 ∧ signOf binary32 0x3F800000#32 = false := by decide
  have e5 : expOf binary32 0x3F801000#32 = 127 ∧ fracOf binary32 0x3F801000#32 = 0x1000 ∧ signOf binary32 0x3F801000#32 = false := by decide
  have e6 : expOf binary16 0x3C00#16 = 15 ∧ fracOf binary16 0x3C00#16 = 0 ∧ signOf binary16 0x3C00#16 = false := by decide
  have e7 : expOf binary16 0x3C01#16 = 15 ∧ fracOf binary16 0x3C01#16 = 1 ∧ signOf binary16 0x3C01#16 = false := by decide
  have e8 : expOf binary16 0#16 = 0 ∧ fracOf binary16 0#16 = 0 := by decide
  unfold floatVal
  simp only [e1, e2, e3, e4, e5, e6, e7, e8]
  norm_num [binary16, binary32]

/-- 0xFF7FFFFF, the greatest negative finite float32, lies below −65504. -/
theorem floatVal_extremes :
    floatVal binary32 0xFF7FFFFF#32 < -65504 ∧ 65504 < floatVal binary32 0x7F7FFFFF#32 := by
  have e1 : expOf binary32 0xFF7FFFFF#32 = 254 ∧ fracOf binary32 0xFF7FFFFF#32 = 0x7FFFFF ∧ signOf binary32 0xFF7FFFFF#32 = true := by decide
  have e2 : expOf binary32 0x7F7FFFFF#32 = 254 ∧ fracOf binary32 0x7F7FFFFF#32 = 0x7FFFFF ∧ signOf binary32 0x7F7FFFFF#32 = false := by decide
  unfold floatVal
  simp only [e1, e2]
  norm_num [binary32]

theorem witness_HalfEncodeOverflow :
    (isFinite binary32 0x477FF000#32 = true ∧ (65520 : ℚ) ≤ floatVal binary32 0x477FF000#32 ∧ (65504 : ℚ) < floatVal binary32 0x477FF000#32) ∧
    isFinite binary32 0xC77FF000#32 = true ∧ floatVal binary32 0xC77FF000#32 ≤ -65520 ∧ floatVal binary32 0xC77FF000#32 < -65504 := by
  obtain ⟨h1, h2, -⟩ := floatVal_samples
  rw [h1, h2]
  refine ⟨⟨by decide, by norm_num, by norm_num⟩, by decide, by norm_num, by norm_num⟩

theorem witness_DirectedHalfEncodeIsClosestOnItsSide :
    (isFinite binary32 0x3F801000#32 = true ∧ isFinite binary16 0x3C00#16 = true ∧
      floatVal binary16 0x3C00#16 ≤ floatVal binary32 0x3F801000#32 ∧
      |floatVal binary16 0x3C00#16| ≤ |floatVal binary32 0x3F801000#32|) ∧
    (isFinite binary16 0x3C01#16 = true ∧ floatVal binary32 0x3F801000#32 ≤ floatVal binary16 0x3C01#16) ∧
    (isFinite binary32 0xFF7FFFFF#32 = true ∧
      ∀ h : BitVec 16, isFinite binary16 h = true → floatVal binary32 0xFF7FFFFF#32 < floatVal binary16 h) ∧
    (isFinite binary32 0x7F7FFFFF#32 = true ∧
      ∀ h : BitVec 16, isFinite binary16 h = true → floatVal binary16 h < floatVal binary32 0x7F7FFFFF#32) := by
  obtain ⟨-, -, -, -, h5, h6, h7, -⟩ := floatVal_samples
  obtain ⟨lo, hi⟩ := floatVal_extremes
  rw [h5, h6, h7]
  refine ⟨⟨by decide, by decide, by norm_num, by norm_num [abs_of_pos]⟩, ⟨by decide, by norm_num⟩,
    ⟨by decide, fun h hf => ?_⟩, ⟨by decide, fun h hf => ?_⟩⟩
  · exact lo.trans_le (abs_le.1 (abs_floatVal_half_le h hf)).1
  · exact (abs_le.1 (abs_floatVal_half_le h hf)).2.trans_lt hi

theorem witness_NearestHalfEncodeIsNearestTiesToEven :
    (isFinite binary32 0x3F801000#32 = true ∧ |floatVal binary32 0x3F801000#32| < 65520 ∧ isFinite binary16 0x3C01#16 = true ∧
      f2h 0x3F801000 .rne = 0x3C00 ∧ floatVal binary16 0x3C01#16 ≠ floatVal binary16 0x3C00#16 ∧
      |floatVal binary16 0x3C01#16 - floatVal binary32 0x3F801000#32|
        = |floatVal binary16 0x3C00#16 - floatVal binary32 0x3F801000#32|) ∧
    isFinite binary32 0x477FF000#32 = true ∧ 65520 ≤ |floatVal binary32 0x477FF000#32| := by
  obtain ⟨h1, -, -, -, h5, h6, h7, -⟩ := floatVal_samples
  rw [h1, h5, h6, h7]
  refine ⟨⟨by decide, ?_, by decide, by decide, by norm_num, ?_⟩, by decide, ?_⟩
  · rw [abs_of_pos] <;> norm_num
  · rw [abs_of_pos, abs_of_neg] <;> norm_num
  · norm_num

theorem witness_HalfSurvivesRoundTrip :
    (¬ NaN16 0x0001 ∧ ¬ NaN16 0xFC00) ∧ isFinite binary32 0x3F800000#32 = true ∧
    ∃ h : BitVec 16, isFinite binary16 h = true ∧ floatVal binary16 h = floatVal binary32 0x3F800000#32 := by
  obtain ⟨-, -, -, h4, -, h6, -, -⟩ := floatVal_samples
  refine ⟨?_, by decide, 0x3C00#16, by decide, by rw [h4, h6]⟩
  unfold NaN16; decide

theorem witness_RoundTripStaysWithinOneUlp :
    (isFinite binary32 0x477FE000#32 = true ∧ |floatVal binary32 0x477FE000#32| ≤ 65504) ∧
    isFinite binary32 0x3F801000#32 = true ∧ |floatVal binary32 0x3F801000#32| ≤ 65504 := by
  obtain ⟨-, -, h3, -, h5, -, -, -⟩ := floatVal_samples
  rw [h3, h5]
  refine ⟨⟨by decide, by norm_num⟩, by decide, ?_⟩
  rw [abs_of_pos] <;> norm_num

theorem witness_TablePathIsTruncation :
    expOf binary32 0x477FF000#32 ≤ 142 ∧ 143 ≤ expOf binary32 0x47800000#32 ∧ expOf binary32 0x7F7FFFFF#32 ≠ 0xFF := by decide

theorem witness_TableCorrectionsGiveTheDirectedModes :
    ¬ NaN32 0x7F800000 ∧ ¬ NaN32 0x33000001 := by
  unfold NaN32; decide

theorem witness_GetcsrReadsCsr :
    opField 0x50 = 0x50 ∧ opField 0x00010050 = 0x50 ∧ opField 0x00000150 = 0x50 ∧
    csrReserved State.reset.csr = 0 := by decide

theorem witness_SetcsrWritesCsrOrRaises :
    opField 0x51 = 0x51 ∧ opField 0x00010051 = 0x51 ∧ opField 0x00000151 = 0x51 ∧
    (0x0000FFFF#256).extractLsb' 16 16 = (0 : BitVec 16) ∧ (0x00010000#256).extractLsb' 16 16 ≠ (0 : BitVec 16) := by decide

theorem witness_OnlySetcsrChangesCsr :
    Instr.getcsr ≠ .setcsr := by decide

theorem witness_CsrMattersOnlyThroughRC :
    (Instr.vcvtps2ph128 0x0C ≠ .getcsr ∧ ∀ sel, Instr.vcvtps2ph128 0x0C = .vcvtps2ph128 sel ∨ Instr.vcvtps2ph128 0x0C = .vcvtps2ph256 sel →
      sel.getLsbD 2 = false ∨ csrRC 0x1F80 = csrRC 0x9FFF) ∧
    (Instr.vcvtps2ph256 0x08 ≠ .getcsr ∧ ∀ sel, Instr.vcvtps2ph256 0x08 = .vcvtps2ph128 sel ∨ Instr.vcvtps2ph256 0x08 = .vcvtps2ph256 sel →
      sel.getLsbD 2 = false ∨ csrRC 0x1F80 = csrRC 0x7F80) ∧
    (Instr.paddsb128 ≠ .getcsr ∧ ∀ sel, Instr.paddsb128 = .vcvtps2ph128 sel ∨ Instr.paddsb128 = .vcvtps2ph256 sel →
      sel.getLsbD 2 = false ∨ csrRC 0x1F80 = csrRC 0x7F80) := by
  refine ⟨⟨by decide, fun sel _ => .inr (by decide)⟩, ⟨by decide, fun sel h => .inl ?_⟩, ⟨by decide, fun sel h => ?_⟩⟩
  · rcases h with h | h
    · cases h
    · cases h; decide
  · rcases h with h | h <;> cases h

theorem witness_UnreadOperandsHaveNoEffect :
    (low128 (0#256) = low128 (1#256 <<< 255) ∧ Instr.paddsb128.w256 = false ∧ (Instr.cmpps128 3).w256 = false) ∧
    lane 64 0 (0#256) = lane 64 0 (1#256 <<< 64) ∧ lane 32 0 (0#256) = lane 32 0 (1#256 <<< 32) := by decide

theorem witness_WideFormsComposeFromHalves :
    (0x1F#8).toNat ≤ 0x1F ∧ (Instr.cmppd128 0x1F, Instr.cmppd256 0x1F) ∈ laneWisePairs 0x1F := by decide

theorem witness_EncodeInvertsDecode :
    decode 0x00010010 = .ok .paddsb256 ∧ decode 0x0000FF33 = .ok (.cmpsd 0xFF) := by decide

theorem witness_PseudoInstructionsExpand :
    (NamedCompare.gt, (0x0E : Imm8)) ∈ [(NamedCompare.ge, (0x0D : Imm8)), (.gt, 0x0E)] ∧
    (Pseudo.cvtCUR, (0x0C : Imm8)) ∈ [(Pseudo.cvtRZ, (0x0B : Imm8)), (.cvtCUR, 0x0C)] := by decide

/-- A command with no operands. -/
def bare (w : CommandWord) : Command := { cmd := w, a := 0, b := 0 }

theorem witness_StepRunsTheDecodedCommand :
    (State.reset.submitFirst (bare 0x50)).schedule = 0 :: [] ∧
    (State.reset.submitFirst (bare 0x50)).requesters[0]? = some (bare 0x50 :: []) ∧ decode (bare 0x50).cmd = .ok .getcsr := by decide

theorem witness_ReservedWordRaisesReservedEncoding :
    (State.reset.submitFirst (bare 0x12032)).schedule = 0 :: [] ∧
    (State.reset.submitFirst (bare 0x12032)).requesters[0]? = some (bare 0x12032 :: []) ∧ reservedWord (bare 0x12032).cmd = true := by decide

theorem witness_TurnWithoutCommandIssuesNothing :
    State.reset.schedule = [] ∧
    ((State.reset.withInput [[]] [1]).schedule = 1 :: [] ∧ (State.reset.withInput [[]] [1]).requesters[1]? = none) ∧
    (State.reset.withInput [[]] [0]).schedule = 0 :: [] ∧ (State.reset.withInput [[]] [0]).requesters[0]? = some [] := by decide

theorem witness_StepKeepsInvariant :
    State.reset.Inv ∧ step State.reset = .next State.reset := ⟨by unfold State.Inv; decide, rfl⟩

theorem witness_ResetSatisfiesInvariant :
    csrReserved 0x0000FFFF = 0 := by decide

theorem witness_ErrorCodeFollowsItsCauses :
    reservedWord 0x00012032 = true ∧
    (reservedWord 0x00002030 = false ∧ illegalArgument 0x00002030 0 = true) ∧
    (reservedWord 0x00001040 = false ∧ illegalArgument 0x00001040 0 = true) ∧
    (reservedWord 0x00000051 = false ∧ illegalArgument 0x00000051 0x10000 = true) ∧
    (reservedWord 0x00001F33 = false ∧ illegalArgument 0x00001F33 0 = false) ∧
    (reservedWord 0x00010F40 = false ∧ illegalArgument 0x00010F40 0 = false) := by decide

theorem witness_CommandsExceptSetcsrAreIdempotent :
    decode (bare 0x50).cmd ≠ .ok .setcsr := by decide

theorem witness_ErrorsLeaveNoTrace :
    (commandResult State.reset (bare 0)).err ≠ 0 ∧ (commandResult State.reset (bare 0x2030)).err ≠ 0 := by decide

theorem witness_SetcsrIsSeenByTheNextCommand :
    decode (0x51#32) = .ok .setcsr ∧ (0x5F80#256).extractLsb' 16 16 = (0 : BitVec 16) ∧ decode (0xC40#32) = .ok (.vcvtps2ph128 0x0C) ∧
    decode (0x10F40#32) = .ok (.vcvtps2ph256 0x0F) ∧ (0x0C#8).toNat < 0x10 ∧ (0x0F#8).toNat < 0x10 ∧ (0x0F#8).getLsbD 2 = true ∧
    (0x0C#8).getLsbD 2 = true ∧ decode (0x50#32) = .ok .getcsr := by decide

theorem witness_EveryInterleavingIsARun :
    Interleaves [[bare 0x51, bare 0xC40], [bare 0x51]] [(0, bare 0x51), (1, bare 0x51), (0, bare 0xC40)] := by
  refine ⟨by decide, fun k => ?_⟩
  match k with
  | 0 => rfl
  | 1 => rfl
  | k + 2 => rfl

theorem witness_OutcomeDependsOnPortAndCsrOnly :
    ∃ s t : State, s.cmd = t.cmd ∧ s.a = t.a ∧ s.b = t.b ∧ s.csr = t.csr ∧ s ≠ t := ⟨State.reset, State.reset.complete 5, rfl, rfl, rfl, rfl, by decide⟩

theorem witness_LanesAreLittleEndianAndSetPlacesThem :
    8 * [0x11#8, 0x22#8, 0x33#8, 0x44#8].length ≤ 32 ∧ 3 < [0x11#8, 0x22#8, 0x33#8, 0x44#8].length := by decide

theorem witness_RoundingControlCanBeReplacedAlone :
    csrReserved 0x0000FFFF = 0 ∧ 12 ≠ 13 ∧ 15 ≠ 14 := by decide

theorem witness_SaturationIsTheNearestValueInRange :
    (SatType.int8.lo ≤ -128 ∧ (-128 : Int) ≤ SatType.int8.hi) ∧ (-129 : Int) < SatType.int8.lo ∧ SatType.uint16.hi < 65536 := by decide

/-- The examples of R69 and R71, and the line of 95_test_vectors.md P3 step 3 (log 19). -/
theorem test_lines_have_their_words :
    AsmLine.word ⟨.cmpps, some .w256, some (.predicate .geOS)⟩ = some 0x00010D30 ∧
    AsmLine.word ⟨.cmppd, some .w128, some (.predicate .eqUQ)⟩ = some 0x00000831 ∧
    AsmLine.word ⟨.vcvtps2ph, none, some (.hex 0x0C)⟩ = some 0x00000C40 ∧
    AsmLine.word ⟨.vcvtph2ps, some .w256, none⟩ = some 0x00010041 ∧
    AsmLine.word ⟨.getcsr, none, none⟩ = some 0x00000050 ∧ AsmLine.word ⟨.getcsr, none, some (.hex 0)⟩ = none ∧
    AsmLine.word ⟨.cmpss, some .w256, none⟩ = some 0x00010032 ∧ assemble ⟨.cmpss, some .w256, none⟩ = none := by decide

end Sys2Proof.Tests
end

section
/-! PROOFS of the statements about the state: the invariant and reset (O47 to O49). -/

open Sys2Proof Sys2Proof.Machine

namespace Sys2Proof.Machine

/-- A completed command meets the invariant on a CSR whose reserved bits are zero (R32). -/
theorem State.inv_complete {s : State} (h : csrReserved s.csr = 0) (x : Vec256) : (s.complete x).Inv :=
  ⟨h, by rw [State.complete_err]; decide, fun herr => absurd rfl herr⟩

/-- An error meets the invariant on a CSR whose reserved bits are zero: its code is 1 or 2, and R is 0 (R281, R289). -/
theorem State.inv_raise {s : State} (h : csrReserved s.csr = 0) (e : ErrorKind) : (s.raise e).Inv :=
  ⟨h, e.code_ne_three, fun _ => rfl⟩

/-- The reserved bits of `A[31:0]` are the bits that SETCSR tests (R271). -/
theorem csrReserved_extractLsb' (a : Vec256) : csrReserved (a.extractLsb' 0 32) = a.extractLsb' 16 16 := by
  apply BitVec.eq_of_getLsbD_eq
  intro j hj
  simp [csrReserved, hj]

/-- A command answers a state that meets the invariant wherever CSR's reserved bits are zero, whatever R and ERR held. -/
theorem exec_inv {i : Instr} {s t : State} (h : csrReserved s.csr = 0) (ht : exec i s = .next t) : t.Inv := by
  obtain ⟨x, hx⟩ | hx | ⟨_, ha, hx⟩ := exec_cases i s <;> obtain rfl : _ = t := Host.Outcome.next.inj (hx.symm.trans ht)
  · exact State.inv_complete h x
  · exact State.inv_raise h .invalidArgument
  · have hcsr : csrReserved (s.writeCsr (s.a.extractLsb' 0 32)).csr = 0 := (csrReserved_extractLsb' s.a).trans ha
    exact State.inv_complete hcsr 0

/-- So does the command that stands on the port. -/
theorem executePort_inv {s t : State} (h : csrReserved s.csr = 0) (ht : executePort s = .next t) : t.Inv := by
  obtain ⟨_, _, hx⟩ | ⟨_, _, hx⟩ := executePort_cases s
  · obtain rfl : _ = t := Host.Outcome.next.inj (hx.symm.trans ht)
    exact State.inv_raise h .reservedEncoding
  · exact exec_inv h (hx.symm.trans ht)

/-- The invariant at reset rests on CSR_RESET's reserved bits alone. -/
theorem State.inv_resetWith {c : CsrWord} (h : csrReserved c = 0) (n : Nat) : (State.resetWith c n).Inv :=
  ⟨h, fun herr => absurd herr (by decide : (0 : ErrCode) ≠ 3), fun _ => rfl⟩

end Sys2Proof.Machine

namespace Sys2Proof.Proofs

/-- Settles O47: a turn that issues nothing leaves CSR, ERR and R alone; the command of any other turn is executed on a
state with the same CSR. -/
theorem stepKeepsInvariant : Obligations.StepKeepsInvariant := by
  intro s t hs ht
  obtain hidle | ⟨_, _, _, _, _, _, hissued⟩ := step_cases s
  · obtain rfl : _ = t := Host.Outcome.next.inj (hidle.symm.trans ht)
    exact State.Inv_of_eq rfl rfl rfl hs
  · obtain ⟨hcsr, _, _⟩ := hs
    refine executePort_inv ?_ (hissued.symm.trans ht)
    exact hcsr

/-- Settles O48: the default CSR_RESET has zero reserved bits, and loading the requesters' input touches no field that the
invariant speaks of. -/
theorem resetSatisfiesInvariant : Obligations.ResetSatisfiesInvariant := by
  refine ⟨fun requesters schedule => ?_, fun _ n hc => State.inv_resetWith hc n⟩
  exact State.Inv_of_eq rfl rfl rfl (State.inv_resetWith (c := Config.csrReset) (by decide) Config.requesterCount)

/-- Settles O49: the fields are read off the constant 0x00001F80. -/
theorem resetCsrHoldsItsDefault : Obligations.ResetCsrHoldsItsDefault := by
  refine ⟨rfl, ?_, ?_, ?_, ?_, ?_, ?_, ?_, ?_, ?_, ?_, ?_, ?_, ?_, ?_, ?_, ?_, fun _ _ => rfl⟩
  all_goals decide

end Sys2Proof.Proofs
end

section
/-! PROOFS of the statement about the constant tables (O29): the rows of BaseTable and ShiftTable by exponent, the truncating
conversion by exponent, and their agreement (R21, R230, R234). -/

open Sys2Proof Sys2Proof.Machine

namespace Sys2Proof.Machine

/-! ### The rows of the tables (R234) -/

theorem halfTableRow_of_lt_103 {E : Nat} (h : E < 103) : halfTableRow E = (0, 24) := by
  rw [halfTableRow, if_pos (by omega)]

theorem halfTableRow_of_lt_113 {E : Nat} (h₁ : 103 ≤ E) (h₂ : E < 113) :
    halfTableRow E = (0x400 >>> (113 - E), 126 - E) := by
  have hbase : (-((E : Int) - 127) - 14).toNat = 113 - E := by omega
  have hshift : (-((E : Int) - 127) - 1).toNat = 126 - E := by omega
  rw [halfTableRow, if_neg (by omega), if_pos (by omega), hbase, hshift]

theorem halfTableRow_of_le_142 {E : Nat} (h₁ : 113 ≤ E) (h₂ : E ≤ 142) : halfTableRow E = ((E - 112) <<< 10, 13) := by
  have hbase : ((E : Int) - 127 + 15).toNat = E - 112 := by omega
  rw [halfTableRow, if_neg (by omega), if_neg (by omega), if_pos (by omega), hbase]

theorem halfTableRow_of_lt_255 {E : Nat} (h₁ : 143 ≤ E) (h₂ : E < 255) : halfTableRow E = (0x7C00, 24) := by
  rw [halfTableRow, if_neg (by omega), if_neg (by omega), if_neg (by omega), if_pos (by omega)]

theorem halfTableRow_of_ge_255 {E : Nat} (h : 255 ≤ E) : halfTableRow E = (0x7C00, 13) := by
  rw [halfTableRow, if_neg (by omega), if_neg (by omega), if_neg (by omega), if_neg (by omega)]

/-- No base exceeds infinity's pattern, and every shift drops at least the 13 bits a float16 fraction lacks. -/
theorem halfTableRow_bounds (E : Nat) : (halfTableRow E).1 ≤ 0x7C00 ∧ 13 ≤ (halfTableRow E).2 := by
  rcases lt_or_ge E 103 with h103 | h103
  · simp [halfTableRow_of_lt_103 h103]
  rcases lt_or_ge E 113 with h113 | h113
  · have hbase : 0x400 >>> (113 - E) ≤ 0x400 := Nat.shiftRight_le _ _
    rw [halfTableRow_of_lt_113 h103 h113]
    exact ⟨by omega, by omega⟩
  rcases le_or_gt E 142 with h142 | h142
  · rw [halfTableRow_of_le_142 h113 h142, Nat.shiftLeft_eq]
    exact ⟨by omega, le_rfl⟩
  rcases lt_or_ge E 255 with h255 | h255
  · simp [halfTableRow_of_lt_255 h142 h255]
  · simp [halfTableRow_of_ge_255 h255]

/-! ### The table path on the fields of the float -/

theorem prefixOf_toNat_mod (f : BitVec 32) : (prefixOf f).toNat % 256 = expOf binary32 f := by
  simp only [prefixOf, expOf, binary32, BitVec.extractLsb'_toNat]
  omega

theorem prefixOf_getLsbD_eight (f : BitVec 32) : (prefixOf f).getLsbD 8 = signOf binary32 f := by
  simp [prefixOf, signOf, binary32]

theorem tableFraction_eq (f : BitVec 32) :
    tableFraction f = fracOf binary32 f >>> (halfTableRow (expOf binary32 f)).2 := by
  rw [tableFraction, shiftTable, prefixOf_toNat_mod]

theorem tableFraction_le (f : BitVec 32) : tableFraction f ≤ 0x3FF := by
  obtain ⟨-, hshift⟩ := halfTableRow_bounds (expOf binary32 f)
  have hM : fracOf binary32 f < 2 ^ 23 := fracOf_lt binary32 f
  rw [tableFraction_eq]
  calc fracOf binary32 f >>> (halfTableRow (expOf binary32 f)).2
      ≤ fracOf binary32 f >>> 13 := by
        simp only [Nat.shiftRight_eq_div_pow]
        exact Nat.div_le_div_left (Nat.pow_le_pow_right (by decide) hshift) (by decide)
    _ ≤ 0x3FF := by rw [Nat.shiftRight_eq_div_pow]; omega

/-- A float16 pattern as a number: the sign weighs 2^15. -/
theorem toNat_packHalf (s : Bool) {m : Nat} (h : m < 2 ^ 15) : (packHalf s m).toNat = s.toNat * 2 ^ 15 + m := by
  rw [packHalf, BitVec.toNat_append, BitVec.toNat_ofNat, Nat.mod_eq_of_lt h, BitVec.toNat_ofBool,
    ← Nat.shiftLeft_add_eq_or_of_lt h, Nat.shiftLeft_eq]

/-- The sign bit of a base adds to it, since no base reaches it (R234). -/
theorem base_or_sign (s : Bool) {m : Nat} (h : m < 2 ^ 15) :
    m ||| (if s then 0x8000 else 0) = s.toNat * 2 ^ 15 + m := by
  cases s
  · simp
  · rw [if_pos rfl, Nat.or_comm]
    exact (Nat.two_pow_add_eq_or_of_lt h 1).symm

/-- The table path is the sign over the sum of base and fraction, which never carries into the sign (R234). -/
theorem tablePath_eq_packHalf (f : BitVec 32) :
    tablePath f = packHalf (signOf binary32 f) ((halfTableRow (expOf binary32 f)).1 + tableFraction f) := by
  obtain ⟨hbase, -⟩ := halfTableRow_bounds (expOf binary32 f)
  have hfrac := tableFraction_le f
  apply BitVec.eq_of_toNat_eq
  rw [toNat_packHalf _ (by omega), tablePath, baseTable, prefixOf_toNat_mod, prefixOf_getLsbD_eight,
    base_or_sign _ (by omega), BitVec.ofNat_add_ofNat, BitVec.toNat_ofNat, Nat.add_assoc]
  have hsign := Bool.toNat_le (signOf binary32 f)
  exact Nat.mod_eq_of_lt (by omega)

/-! ### The truncating conversion by exponent (R230) -/

/-- A normal result: the exponent field, and the fraction below the leading one. -/
theorem f2hFinite_rz_normal (s : Bool) (N : Nat) {k e : Int} (h₁ : -14 ≤ e) (h₂ : e ≤ 15) :
    f2hFinite .rz s N k e = packHalf s (((e + 15).toNat <<< 10) + (N >>> (e - 10 - k).toNat - 1024)) := by
  have hover : ¬ e > 15 := by omega
  have hmax : max e (-14) = e := max_eq_left h₁
  simp only [f2hFinite, if_neg hover, hmax, if_pos h₁, roundingIncrement, Bool.false_eq_true, if_false, Nat.add_zero]

/-- A denormal result, in units of 2^−24. -/
theorem f2hFinite_rz_denormal (s : Bool) (N : Nat) {k e : Int} (h : e < -14) :
    f2hFinite .rz s N k e = packHalf s (N >>> (-24 - k).toNat) := by
  have hover : ¬ e > 15 := by omega
  have hmax : max e (-14) = -14 := max_eq_right h.le
  have hlt : ¬ e ≥ -14 := by omega
  simp only [f2hFinite, if_neg hover, hmax, if_neg hlt, roundingIncrement, Bool.false_eq_true, if_false, Nat.add_zero]
  rfl

/-- The significand of a normal float32. -/
theorem fracOf_or_hidden (f : BitVec 32) : fracOf binary32 f ||| 0x800000 = 2 ^ 23 + fracOf binary32 f := by
  rw [Nat.or_comm]
  exact (Nat.two_pow_add_eq_or_of_lt (i := 23) (fracOf_lt binary32 f) 1).symm

/-- A normal float32 converts by its significand. -/
theorem f2h_of_normal {f : BitVec 32} (mode : RoundingMode) (h₁ : 1 ≤ expOf binary32 f) (h₂ : expOf binary32 f ≤ 254) :
    f2h f mode = f2hFinite mode (signOf binary32 f) (2 ^ 23 + fracOf binary32 f)
      ((expOf binary32 f : Int) - 150) ((expOf binary32 f : Int) - 127) := by
  have hones : ¬ expOf binary32 f = 0xFF := by omega
  have hzero : ¬ expOf binary32 f = 0 := by omega
  simp only [f2h, hones, hzero, false_and, if_false, fracOf_or_hidden]

/-- A zero or denormal float32 lies below half of float16's least denormal: truncated, it is a zero (R232). -/
theorem f2h_rz_of_expOf_eq_zero {f : BitVec 32} (h : expOf binary32 f = 0) :
    f2h f .rz = packHalf (signOf binary32 f) 0 := by
  have hM : fracOf binary32 f < 2 ^ 23 := fracOf_lt binary32 f
  by_cases hfrac : fracOf binary32 f = 0
  · simp [f2h, h, hfrac]
  · have hlog : Nat.log2 (fracOf binary32 f) < 23 := (Nat.log2_lt hfrac).2 hM
    have he : (bitlen (fracOf binary32 f) : Int) - 150 < -14 := by unfold bitlen; omega
    have hshift : fracOf binary32 f >>> (-24 - (-149 : Int)).toNat = 0 := by
      rw [Nat.shiftRight_eq_div_pow]
      exact Nat.div_eq_of_lt (hM.trans_le (by decide))
    simp only [f2h, h, hfrac, f2hFinite_rz_denormal _ _ he, hshift]
    simp

theorem f2h_rz_denormal {f : BitVec 32} (h₁ : 1 ≤ expOf binary32 f) (h₂ : expOf binary32 f < 113) :
    f2h f .rz = packHalf (signOf binary32 f) ((2 ^ 23 + fracOf binary32 f) >>> (126 - expOf binary32 f)) := by
  have hshift : (-24 - ((expOf binary32 f : Int) - 150)).toNat = 126 - expOf binary32 f := by omega
  rw [f2h_of_normal .rz h₁ (by omega), f2hFinite_rz_denormal _ _ (by omega), hshift]

theorem f2h_rz_normal {f : BitVec 32} (h₁ : 113 ≤ expOf binary32 f) (h₂ : expOf binary32 f ≤ 142) :
    f2h f .rz = packHalf (signOf binary32 f) (((expOf binary32 f - 112) <<< 10) + fracOf binary32 f >>> 13) := by
  have hexp : ((expOf binary32 f : Int) - 127 + 15).toNat = expOf binary32 f - 112 := by omega
  have hshift : ((expOf binary32 f : Int) - 127 - 10 - ((expOf binary32 f : Int) - 150)).toNat = 13 := by omega
  have hlead : (2 ^ 23 + fracOf binary32 f) >>> 13 - 1024 = fracOf binary32 f >>> 13 := by
    simp only [Nat.shiftRight_eq_div_pow]; omega
  rw [f2h_of_normal .rz (by omega) (by omega), f2hFinite_rz_normal _ _ (by omega) (by omega), hexp, hshift, hlead]

/-! ### Where the two agree -/

/-- The leading one of the significand is BaseTable's one bit, the rest is what ShiftTable leaves of the fraction (R234). -/
theorem significand_shiftRight {E : Nat} (h₁ : 103 ≤ E) (h₂ : E < 113) (M : Nat) :
    (2 ^ 23 + M) >>> (126 - E) = 0x400 >>> (113 - E) + M >>> (126 - E) := by
  have hsplit : 126 - E = 13 + (113 - E) := by omega
  have hdvd : 2 ^ (126 - E) ∣ 2 ^ 23 := Nat.pow_dvd_pow 2 (by omega)
  have hlead : 2 ^ 23 / 2 ^ (126 - E) = 0x400 / 2 ^ (113 - E) := by
    rw [hsplit, Nat.pow_add, ← Nat.div_div_eq_div_mul]
    rfl
  simp only [Nat.shiftRight_eq_div_pow]
  rw [Nat.add_div_of_dvd_right hdvd, hlead]

/-- Up to exponent 142 the table path is truncation (R234). -/
theorem tablePath_eq_f2h_rz {f : BitVec 32} (h : expOf binary32 f ≤ 142) : tablePath f = f2h f .rz := by
  have hM : fracOf binary32 f < 2 ^ 23 := fracOf_lt binary32 f
  have dropped : ∀ {m d : Nat}, m < 2 ^ 24 → 24 ≤ d → m >>> d = 0 := by
    intro m d hm hd
    rw [Nat.shiftRight_eq_div_pow]
    exact Nat.div_eq_of_lt (hm.trans_le (Nat.pow_le_pow_right (by decide) hd))
  rw [tablePath_eq_packHalf, tableFraction_eq]
  rcases lt_or_ge (expOf binary32 f) 103 with h103 | h103
  · rw [halfTableRow_of_lt_103 h103, dropped (by omega) le_rfl]
    rcases Nat.eq_zero_or_pos (expOf binary32 f) with hzero | hpos
    · rw [f2h_rz_of_expOf_eq_zero hzero]
    · rw [f2h_rz_denormal hpos (by omega), dropped (by omega) (by omega)]
  rcases lt_or_ge (expOf binary32 f) 113 with h113 | h113
  · rw [halfTableRow_of_lt_113 h103 h113, f2h_rz_denormal (by omega) h113, significand_shiftRight h103 h113]
  · rw [halfTableRow_of_le_142 h113 h, f2h_rz_normal h113 h]

/-- From exponent 143 on the table path is the infinity of the float's sign (R234). -/
theorem tablePath_of_overflow {f : BitVec 32} (h₁ : 143 ≤ expOf binary32 f) (h₂ : expOf binary32 f ≠ 0xFF) :
    tablePath f = packHalf (signOf binary32 f) 0x7C00 := by
  have hM : fracOf binary32 f < 2 ^ 23 := fracOf_lt binary32 f
  have hE : expOf binary32 f < 256 := expOf_lt binary32 f
  have hdropped : fracOf binary32 f >>> 24 = 0 := by rw [Nat.shiftRight_eq_div_pow]; omega
  rw [tablePath_eq_packHalf, tableFraction_eq, halfTableRow_of_lt_255 h₁ (by omega), hdropped]

theorem ofBool_signOf_binary32 (f : BitVec 32) : BitVec.ofBool (signOf binary32 f) = f.extractLsb' 31 1 := by
  ext j hj
  obtain rfl : j = 0 := by omega
  simp [signOf, binary32]

end Sys2Proof.Machine

namespace Sys2Proof.Proofs

/-- Settles O29, by the rows of the tables: rows below 103 and from 143 on drop the whole fraction, the others split the
significand into its leading one, which is the base, and the fraction. -/
theorem tablePathIsTruncation : Obligations.TablePathIsTruncation := by
  refine fun f => ⟨tableFraction_le f, tablePath_eq_f2h_rz, fun h₁ h₂ => ?_⟩
  rw [tablePath_of_overflow h₁ h₂, packHalf, ofBool_signOf_binary32]

end Sys2Proof.Proofs
end

section
/-! PROOFS of the statements about what a command reads and writes (O31, O33, O34, O35, O55). Every command has one of a few
shapes, and each shape says which parts of A, B and CSR its answer depends on. -/

open Sys2Proof Sys2Proof.Machine Sys2Proof.Claims

namespace Sys2Proof

/-! ### The word of an operation with one form (R63, R64) -/

/-- An operation with IMM8 = 0 and no 256-bit form has one word, its OP with every other field zero. -/
theorem decode_of_oneForm_op {o : Op} {i : Instr} {w : CommandWord} (himm : o.immUse = .mustBeZero)
    (hnarrow : o.instr false 0 = some i) (hwide : o.instr true 0 = none) (hop : opField w = o.code) :
    (∃ e, decode w = .error e) ∨ (decode w = .ok i ∧ w = assembleWord false 0 o.code) := by
  have hfound : Op.ofCode (opField w) = some o := by rw [hop, Op.ofCode_code]
  obtain ⟨_, h⟩ | ⟨_, _, h⟩ | ⟨o', hrsv, ho', ⟨_, _, h⟩ | ⟨_, _, h⟩ | ⟨i', hz, hi', h⟩⟩ := decode_cases w
  · exact .inl ⟨_, h⟩
  · exact .inl ⟨_, h⟩
  · exact .inl ⟨_, h⟩
  · exact .inl ⟨_, h⟩
  obtain rfl : o = o' := Option.some.inj (hfound.symm.trans ho')
  have hzero : immField w = 0 := by_contra fun hne => hz ⟨himm, hne⟩
  have hwidth : widthField w = false := by
    by_contra htrue
    rw [hzero, Bool.eq_true_of_not_eq_false htrue, hwide] at hi'
    exact absurd hi' (by simp)
  rw [hzero, hwidth, hnarrow] at hi'
  obtain rfl := Option.some.inj hi'
  refine .inr ⟨h, word_eq_of_fields _ _ ?_ ?_ ?_ ?_⟩
  · rw [hop, opField_assembleWord]
  · rw [hzero, immField_assembleWord]
  · rw [hwidth, widthField_assembleWord]
  · rw [hrsv, rsvField_assembleWord]

/-- That word does decode. -/
theorem decode_assembleWord_of_oneForm {o : Op} {i : Instr} (hnarrow : o.instr false 0 = some i) :
    decode (assembleWord false 0 o.code) = .ok i := by
  have hzero : o.instr false 0#8 = some i := hnarrow
  simp [decode, hzero]

theorem assembleWord_narrow_zero (op : BitVec 8) : assembleWord false 0 op = op.setWidth 32 := by
  simp [assembleWord]

theorem oneForm_of_op {o : Op} {i : Instr} (himm : o.immUse = .mustBeZero)
    (hnarrow : o.instr false 0 = some i) (hwide : o.instr true 0 = none) : OneForm o.code i := by
  intro w hop
  rw [← assembleWord_narrow_zero]
  split
  next hw => rw [hw]; exact decode_assembleWord_of_oneForm hnarrow
  next hw =>
    obtain h | ⟨_, h⟩ := decode_of_oneForm_op himm hnarrow hwide hop
    · exact h
    · exact absurd h hw

end Sys2Proof

namespace Sys2Proof.Machine

/-! ### Lanes of a part of a vector -/

/-- A lane that lies in the low m bits is a lane of those bits. -/
theorem lane_lane_zero {n : Nat} (w i m : Nat) (v : BitVec n) (h : w * (i + 1) ≤ m) :
    lane w i (lane m 0 v) = lane w i v := by
  apply BitVec.eq_of_getLsbD_eq
  intro j hj
  have hlt : w * i + j < m := by rw [Nat.mul_succ] at h; omega
  simp only [getLsbD_lane, hlt, Nat.mul_zero, Nat.zero_add, decide_true, Bool.true_and]

/-- Vectors that agree in their low m bits agree in every lane there. -/
theorem lane_congr_of_lane_zero {n w i m : Nat} {v u : BitVec n} (h : lane m 0 v = lane m 0 u) (hfit : w * (i + 1) ≤ m) :
    lane w i v = lane w i u := by
  rw [← lane_lane_zero w i m v hfit, h, lane_lane_zero w i m u hfit]

/-- Only the lanes below the count go into a built vector. -/
theorem ofLanes_congr {n w count : Nat} {f g : Nat → BitVec w} (h : ∀ i < count, f i = g i) :
    ofLanes n w count f = ofLanes n w count g := by
  induction count with
  | zero => rfl
  | succ count ih =>
    simp only [ofLanes]
    rw [ih fun i hi => h i (Nat.lt_succ_of_lt hi), h count (Nat.lt_succ_self count)]

/-! ### What a command reads of CSR -/

@[simp] theorem csrRC_readCsr (s : State) : csrRC s.readCsr = csrRC s.csr := by
  apply BitVec.eq_of_getLsbD_eq
  intro j hj
  have h16 : 13 + j < 16 := by omega
  have h32 : 13 + j < 32 := by omega
  simp [csrRC, State.readCsr, h16, h32]

/-- The rounding selection reads RC alone, and only when IMM8[2] is set (R237). -/
theorem selectRounding_congr {sel : Imm8} {c d : CsrWord} (h : sel.getLsbD 2 = false ∨ csrRC c = csrRC d) :
    selectRounding sel c = selectRounding sel d := by
  unfold selectRounding
  obtain h | h := h <;> rw [h]
  rfl

/-! ### Outcomes that agree -/

/-- Two outcomes, of commands executed in s and in t, drive the same R and ERR, and leave the same CSR if there was the same. -/
def AnswersAlike (s t : State) (o p : Host.Outcome State Fault Refusal) : Prop :=
  ∃ s' t', o = .next s' ∧ p = .next t' ∧ s'.r = t'.r ∧ s'.err = t'.err ∧ (s.csr = t.csr → s'.csr = t'.csr)

theorem AnswersAlike.sameOutcome {i : Instr} {s t : State} (h : AnswersAlike s t (exec i s) (exec i t))
    (hcsr : s.csr = t.csr) : SameOutcome i s t := by
  obtain ⟨s', t', hs, ht, hr, herr, hkeep⟩ := h
  exact ⟨s', t', hs, ht, hr, herr, hkeep hcsr⟩

theorem answersAlike_complete (s t : State) {x y : Vec256} (h : x = y) :
    AnswersAlike s t (.next (s.complete x)) (.next (t.complete y)) :=
  ⟨_, _, rfl, rfl, h, rfl, id⟩

theorem answersAlike_raise (s t : State) (e : ErrorKind) : AnswersAlike s t (.next (s.raise e)) (.next (t.raise e)) :=
  ⟨_, _, rfl, rfl, rfl, rfl, id⟩

theorem answersAlike_comparing (p : Imm8) (s t : State) {f g : PredicateRow → Vec256} (h : ∀ row, f row = g row) :
    AnswersAlike s t (comparing p s f) (comparing p t g) := by
  unfold comparing
  cases predicateOf p with
  | none => exact answersAlike_raise s t _
  | some row => exact answersAlike_complete s t (h row)

theorem answersAlike_converting {sel : Imm8} {s t : State} {f g : RoundingMode → Vec256}
    (hrc : sel.getLsbD 2 = false ∨ csrRC s.csr = csrRC t.csr) (h : ∀ mode, f mode = g mode) :
    AnswersAlike s t (converting sel s f) (converting sel t g) := by
  have hsel : selectRounding sel s.readCsr = selectRounding sel t.readCsr :=
    selectRounding_congr (by rwa [csrRC_readCsr, csrRC_readCsr])
  unfold converting
  rw [hsel]
  cases selectRounding sel t.readCsr with
  | none => exact answersAlike_raise s t _
  | some mode => exact answersAlike_complete s t (h mode)

theorem answersAlike_vcvtps2ph128 {sel : Imm8} {s t : State} (hrc : sel.getLsbD 2 = false ∨ csrRC s.csr = csrRC t.csr)
    (h : ∀ i < 4, lane 32 i s.a = lane 32 i t.a) :
    AnswersAlike s t (exec (.vcvtps2ph128 sel) s) (exec (.vcvtps2ph128 sel) t) :=
  answersAlike_converting hrc fun _ => ofLanes_congr fun i hi => by rw [h i hi]

theorem answersAlike_vcvtps2ph256 {sel : Imm8} {s t : State} (hrc : sel.getLsbD 2 = false ∨ csrRC s.csr = csrRC t.csr)
    (h : ∀ i < 8, lane 32 i s.a = lane 32 i t.a) :
    AnswersAlike s t (exec (.vcvtps2ph256 sel) s) (exec (.vcvtps2ph256 sel) t) :=
  answersAlike_converting hrc fun _ => ofLanes_congr fun i hi => by rw [h i hi]

theorem answersAlike_vcvtph2ps128 {s t : State} (h : ∀ i < 4, lane 16 i s.a = lane 16 i t.a) :
    AnswersAlike s t (exec .vcvtph2ps128 s) (exec .vcvtph2ps128 t) :=
  answersAlike_complete s t (ofLanes_congr fun i hi => by rw [h i hi])

theorem answersAlike_vcvtph2ps256 {s t : State} (h : ∀ i < 8, lane 16 i s.a = lane 16 i t.a) :
    AnswersAlike s t (exec .vcvtph2ps256 s) (exec .vcvtph2ps256 t) :=
  answersAlike_complete s t (ofLanes_congr fun i hi => by rw [h i hi])

theorem answersAlike_getcsr {s t : State} (h : s.csr = t.csr) : AnswersAlike s t (exec .getcsr s) (exec .getcsr t) :=
  answersAlike_complete s t (by rw [State.readCsr_congr h])

theorem answersAlike_setcsr {s t : State} (h : lane 32 0 s.a = lane 32 0 t.a) :
    AnswersAlike s t (exec .setcsr s) (exec .setcsr t) := by
  have hlow : s.a.extractLsb' 0 32 = t.a.extractLsb' 0 32 := h
  have htested : s.a.extractLsb' 16 16 = t.a.extractLsb' 16 16 := lane_congr_of_lane_zero (w := 16) (i := 1) h (by decide)
  show AnswersAlike s t (execSetcsr s) (execSetcsr t)
  unfold execSetcsr
  rw [hlow, htested]
  split
  · exact answersAlike_raise s t _
  · exact ⟨_, _, rfl, rfl, rfl, rfl, fun _ => rfl⟩

/-! ### The shapes of the commands -/

/-- The form that a command's W bit selects (R61, R62). -/
def formOf : Bool → (Vec128 → Vec128 → Vec128) → Vec256 → Vec256 → Vec256
  | false => form128
  | true => form256

/-- What a command does with the port and CSR: an operation on 128-bit halves, the same under a predicate code, a conversion,
or an access to CSR. -/
inductive Shape : Instr → Prop where
  | laneWise {i : Instr} (op : Vec128 → Vec128 → Vec128)
      (h : ∀ s, exec i s = .next (s.complete (formOf i.w256 op s.a s.b))) : Shape i
  | compare {i : Instr} (p : Imm8) (op : PredicateRow → Vec128 → Vec128 → Vec128)
      (h : ∀ s, exec i s = comparing p s fun row => formOf i.w256 (op row) s.a s.b) : Shape i
  | vcvtps2ph128 (sel : Imm8) : Shape (.vcvtps2ph128 sel)
  | vcvtps2ph256 (sel : Imm8) : Shape (.vcvtps2ph256 sel)
  | vcvtph2ps128 : Shape .vcvtph2ps128
  | vcvtph2ps256 : Shape .vcvtph2ps256
  | getcsr : Shape .getcsr
  | setcsr : Shape .setcsr

/-- Every command has its shape. -/
theorem exec_shape (i : Instr) : Shape i := by
  cases i
  case cmpps128 p => exact .compare p (fun row => zipLanes 32 4 (compareLane binary32 row)) fun _ => rfl
  case cmpps256 p => exact .compare p (fun row => zipLanes 32 4 (compareLane binary32 row)) fun _ => rfl
  case cmppd128 p => exact .compare p (fun row => zipLanes 64 2 (compareLane binary64 row)) fun _ => rfl
  case cmppd256 p => exact .compare p (fun row => zipLanes 64 2 (compareLane binary64 row)) fun _ => rfl
  case cmpss p =>
    exact .compare p (fun row a b => spliceLow 32 (compareLane binary32 row (lane 32 0 a) (lane 32 0 b)) a) fun _ => rfl
  case cmpsd p =>
    exact .compare p (fun row a b => spliceLow 64 (compareLane binary64 row (lane 64 0 a) (lane 64 0 b)) a) fun _ => rfl
  case vcvtps2ph128 sel => exact .vcvtps2ph128 sel
  case vcvtps2ph256 sel => exact .vcvtps2ph256 sel
  case vcvtph2ps128 => exact .vcvtph2ps128
  case vcvtph2ps256 => exact .vcvtph2ps256
  case getcsr => exact .getcsr
  case setcsr => exact .setcsr
  all_goals exact .laneWise _ fun _ => rfl

/-- With the same operands every command but GETCSR answers alike, whatever CSR holds, as long as the converter rounds alike
(R31). -/
theorem answersAlike_of_operands_eq {i : Instr} {s t : State} (ha : s.a = t.a) (hb : s.b = t.b)
    (hget : i = .getcsr → s.csr = t.csr)
    (hrc : ∀ sel, i = .vcvtps2ph128 sel ∨ i = .vcvtps2ph256 sel → sel.getLsbD 2 = false ∨ csrRC s.csr = csrRC t.csr) :
    AnswersAlike s t (exec i s) (exec i t) := by
  cases exec_shape i with
  | laneWise op h =>
    rw [h s, h t]
    exact answersAlike_complete s t (by rw [ha, hb])
  | compare p op h =>
    rw [h s, h t]
    exact answersAlike_comparing p s t fun row => by rw [ha, hb]
  | vcvtps2ph128 sel => exact answersAlike_vcvtps2ph128 (hrc sel (.inl rfl)) fun _ _ => by rw [ha]
  | vcvtps2ph256 sel => exact answersAlike_vcvtps2ph256 (hrc sel (.inr rfl)) fun _ _ => by rw [ha]
  | vcvtph2ps128 => exact answersAlike_vcvtph2ps128 fun _ _ => by rw [ha]
  | vcvtph2ps256 => exact answersAlike_vcvtph2ps256 fun _ _ => by rw [ha]
  | getcsr => exact answersAlike_getcsr (hget rfl)
  | setcsr => exact answersAlike_setcsr (by rw [ha])

/-- A W = 0 command reads only the low halves of its operands (R25). -/
theorem answersAlike_of_low128_eq {i : Instr} {s t : State} (hcsr : s.csr = t.csr) (hw : i.w256 = false)
    (ha : low128 s.a = low128 t.a) (hb : low128 s.b = low128 t.b) : AnswersAlike s t (exec i s) (exec i t) := by
  have hlane : ∀ w i : Nat, w * (i + 1) ≤ 128 → lane w i s.a = lane w i t.a := fun _ _ => lane_congr_of_lane_zero ha
  have hform : ∀ op, formOf i.w256 op s.a s.b = formOf i.w256 op t.a t.b := by
    intro op
    rw [hw]
    show form128 op s.a s.b = form128 op t.a t.b
    rw [form128, form128, ha, hb]
  cases exec_shape i with
  | laneWise op h =>
    rw [h s, h t]
    exact answersAlike_complete s t (hform op)
  | compare p op h =>
    rw [h s, h t]
    exact answersAlike_comparing p s t fun row => hform (op row)
  | vcvtps2ph128 sel => exact answersAlike_vcvtps2ph128 (.inr (by rw [hcsr])) fun i hi => hlane 32 i (by omega)
  | vcvtps2ph256 sel => cases hw
  | vcvtph2ps128 => exact answersAlike_vcvtph2ps128 fun i hi => hlane 16 i (by omega)
  | vcvtph2ps256 => cases hw
  | getcsr => exact answersAlike_getcsr hcsr
  | setcsr => exact answersAlike_setcsr (hlane 32 0 (by decide))

/-- A scalar compare reads A's low half and B's lane 0 (R181, R182). -/
theorem form128_spliceLow_congr {w : Nat} (hw : w ≤ 128) (g : BitVec w → BitVec w → BitVec w) {a b a' b' : Vec256}
    (ha : low128 a = low128 a') (hb : lane w 0 b = lane w 0 b') :
    form128 (fun x y => spliceLow w (g (lane w 0 x) (lane w 0 y)) x) a b =
      form128 (fun x y => spliceLow w (g (lane w 0 x) (lane w 0 y)) x) a' b' := by
  have hfit : w * (0 + 1) ≤ 128 := by omega
  simp only [form128, lane_low128 w 0 b hfit, lane_low128 w 0 b' hfit, ha, hb]

theorem answersAlike_cmpss {p : Imm8} {s t : State} (ha : low128 s.a = low128 t.a) (hb : lane 32 0 s.b = lane 32 0 t.b) :
    AnswersAlike s t (exec (.cmpss p) s) (exec (.cmpss p) t) :=
  answersAlike_comparing p s t fun row => form128_spliceLow_congr (by decide) (compareLane binary32 row) ha hb

theorem answersAlike_cmpsd {p : Imm8} {s t : State} (ha : low128 s.a = low128 t.a) (hb : lane 64 0 s.b = lane 64 0 t.b) :
    AnswersAlike s t (exec (.cmpsd p) s) (exec (.cmpsd p) t) :=
  answersAlike_comparing p s t fun row => form128_spliceLow_congr (by decide) (compareLane binary64 row) ha hb

/-- What stands on the port and CSR decide the outcome (R35). -/
theorem executePort_answersAlike {s t : State} (hcmd : s.cmd = t.cmd) (ha : s.a = t.a) (hb : s.b = t.b)
    (hcsr : s.csr = t.csr) : AnswersAlike s t (executePort s) (executePort t) := by
  unfold executePort
  rw [hcmd]
  cases decode t.cmd with
  | error e => exact answersAlike_raise s t _
  | ok i => exact answersAlike_of_operands_eq ha hb (fun _ => hcsr) fun _ _ => .inr (by rw [hcsr])

/-! ### GETCSR's result (R32, R270) -/

theorem exec_getcsr (s : State) : Completes .getcsr s ((s.csr.extractLsb' 0 16).setWidth 256) := by
  have hread : s.readCsr.setWidth 256 = (s.csr.extractLsb' 0 16).setWidth 256 := by
    apply BitVec.eq_of_toNat_eq
    simp [State.readCsr]
  rw [← hread]
  rfl

/-- A CSR whose reserved bits are zero is its low half as a number (R32). -/
theorem toNat_lt_of_csrReserved {c : CsrWord} (h : csrReserved c = 0) : c.toNat < 2 ^ 16 := by
  have hnum := congrArg BitVec.toNat h
  simp only [csrReserved, BitVec.extractLsb'_toNat, BitVec.ofNat_eq_ofNat, BitVec.toNat_ofNat] at hnum
  have hlt := c.isLt
  omega

end Sys2Proof.Machine

namespace Sys2Proof.Proofs

/-- Settles O31: the result is CSR's low 16 bits, zero-extended; where the reserved bits are zero they are all of CSR. -/
theorem getcsrReadsCsr : Obligations.GetcsrReadsCsr := by
  refine ⟨oneForm_of_op (o := .getcsr) rfl rfl rfl, fun s => ⟨_, exec_getcsr s, rfl, fun h => ?_⟩⟩
  have hlt := toNat_lt_of_csrReserved h
  refine ⟨BitVec.eq_of_toNat_eq ?_, BitVec.eq_of_toNat_eq ?_⟩
  all_goals
    simp only [BitVec.extractLsb'_toNat, BitVec.toNat_setWidth, BitVec.ofNat_eq_ofNat, BitVec.toNat_ofNat]
    omega

/-- Settles O33, by the three ways a command can end. -/
theorem onlySetcsrChangesCsr : Obligations.OnlySetcsrChangesCsr := by
  intro i s
  obtain ⟨x, h⟩ | h | ⟨hi, -, h⟩ := exec_cases i s
  · exact ⟨_, h, fun _ => rfl, rfl, rfl, rfl, rfl, rfl⟩
  · exact ⟨_, h, fun _ => rfl, rfl, rfl, rfl, rfl, rfl⟩
  · exact ⟨_, h, fun hne => absurd hi hne, rfl, rfl, rfl, rfl, rfl⟩

/-- Settles O34: no shape but GETCSR's and the converter's has CSR in its answer, and the converter selects by RC. -/
theorem csrMattersOnlyThroughRC : Obligations.CsrMattersOnlyThroughRC := by
  intro i s t ha hb hne hrc
  obtain ⟨s', t', hs, ht, hr, herr, -⟩ := answersAlike_of_operands_eq ha hb (fun h => absurd h hne) hrc
  exact ⟨s', t', hs, ht, hr, herr⟩

/-- Settles O35, by the parts of the operands that each shape reads. -/
theorem unreadOperandsHaveNoEffect : Obligations.UnreadOperandsHaveNoEffect := by
  intro s t hcsr
  have hrc : ∀ sel : Imm8, sel.getLsbD 2 = false ∨ csrRC s.csr = csrRC t.csr := fun _ => .inr (by rw [hcsr])
  refine ⟨fun i hw ha hb => ?narrow, fun ha sel => ⟨?ps2ph128, ?ps2ph256⟩, fun ha => ?ph2ps256, fun ha => ?ph2ps128,
    fun ha hb p => ?cmpss, fun ha hb p => ?cmpsd, fun ha => ?setcsr, ?getcsr⟩
  all_goals refine AnswersAlike.sameOutcome ?_ hcsr
  case narrow => exact answersAlike_of_low128_eq hcsr hw ha hb
  case ps2ph128 => exact answersAlike_vcvtps2ph128 (hrc sel) fun _ _ => by rw [ha]
  case ps2ph256 => exact answersAlike_vcvtps2ph256 (hrc sel) fun _ _ => by rw [ha]
  case ph2ps256 => exact answersAlike_vcvtph2ps256 fun i hi => lane_congr_of_lane_zero (m := 128) ha (by omega)
  case ph2ps128 => exact answersAlike_vcvtph2ps128 fun i hi => lane_congr_of_lane_zero ha (by omega)
  case cmpss => exact answersAlike_cmpss ha hb
  case cmpsd => exact answersAlike_cmpsd ha hb
  case setcsr => exact answersAlike_setcsr ha
  case getcsr => exact answersAlike_getcsr hcsr

/-- Settles O55: the port's outcome is read off CMD, A, B and CSR. -/
theorem outcomeDependsOnPortAndCsrOnly : Obligations.OutcomeDependsOnPortAndCsrOnly := by
  intro s t hcmd ha hb hcsr
  obtain ⟨s', t', hs, ht, hr, herr, hkeep⟩ := executePort_answersAlike hcmd ha hb hcsr
  exact ⟨s', t', hs, ht, hr, herr, hkeep hcsr⟩

end Sys2Proof.Proofs
end

section
/-! PROOFS of the statement about lanes (O56): a wide lane is two narrow ones, and `set` and `setr` place the list (R24, R41,
R42). -/

open Sys2Proof Sys2Proof.Machine

namespace Sys2Proof.Machine

/-- A lane of twice the width is two lanes, the lower index less significant (R41). -/
theorem lane_double {n : Nat} (w i : Nat) (v : BitVec n) :
    lane (w + w) i v = lane w (2 * i + 1) v ++ lane w (2 * i) v := by
  have hlow : w * (2 * i) = (w + w) * i := by ring
  have hhigh : w * (2 * i + 1) = (w + w) * i + w := by ring
  apply BitVec.eq_of_getLsbD_eq
  intro j hj
  rw [BitVec.getLsbD_append, getLsbD_lane, getLsbD_lane, getLsbD_lane, hlow, hhigh]
  by_cases hjw : j < w
  · simp [hj, hjw]
  · have hrest : j - w < w := by omega
    have hplace : (w + w) * i + w + (j - w) = (w + w) * i + j := by omega
    simp [hj, hjw, hrest, hplace]

/-- `set` is `setr` of the arguments in the other order (R42). -/
theorem setLanes_eq_setrLanes_reverse (n w : Nat) (es : List (BitVec w)) : setLanes n w es = setrLanes n w es.reverse := by
  rw [setLanes, setrLanes, List.length_reverse]
  exact ofLanes_congr fun i hi => congrFun (List.getD_reverse i hi).symm 0

end Sys2Proof.Machine

namespace Sys2Proof.Proofs

/-- Settles O56: the lanes of a built vector are its arguments, and the rest is R41 at the three widths. -/
theorem lanesAreLittleEndianAndSetPlacesThem : Obligations.LanesAreLittleEndianAndSetPlacesThem := by
  refine ⟨fun v i => ⟨lane_double 8 i v, lane_double 16 i v, lane_double 32 i v⟩, fun n w es hfit => ⟨?_, ?_, ?_⟩⟩
  · exact lane_ofLanes_of_lt n w es.length (fun i => es.getD i 0) hfit
  · exact lane_ofLanes_of_lt n w es.length (fun i => es.getD (es.length - 1 - i) 0) hfit
  · exact setLanes_eq_setrLanes_reverse n w es

end Sys2Proof.Proofs
end

section
/-! PROOFS of the statements about sequences of commands and about requesters (O42, O50, O52, O53, O54): what the block's
answer to one command depends on, what the next command sees of CSR, and the runs of a schedule. -/

open Sys2Proof Sys2Proof.Machine Sys2Proof.Claims

namespace Sys2Proof.Machine

/-! ### The block's answer to one command -/

theorem executePort_of_decode {s : State} {i : Instr} (h : decode s.cmd = .ok i) : executePort s = exec i s := by
  simp only [executePort, h]

theorem commandResult_of_executePort {s t : State} {c : Command} (h : executePort (s.present c) = .next t) :
    commandResult s c = t := by
  simp only [commandResult, h]

theorem commandResult_of_exec {s t : State} {c : Command} {i : Instr} (hdecode : decode c.cmd = .ok i)
    (h : exec i (s.present c) = .next t) : commandResult s c = t :=
  commandResult_of_executePort ((executePort_of_decode (s := s.present c) hdecode).trans h)

/-- The port's command writes CSR, R and ERR alone, and CSR only when it is SETCSR (R20, R28). -/
theorem executePort_writes (s : State) : ∃ csr r err,
    executePort s = .next { s with csr := csr, r := r, err := err } ∧ (decode s.cmd ≠ .ok .setcsr → csr = s.csr) := by
  obtain ⟨_, -, h⟩ | ⟨i, hdecode, h⟩ := executePort_cases s
  · exact ⟨_, _, _, h, fun _ => rfl⟩
  obtain ⟨x, hx⟩ | hx | ⟨rfl, -, hx⟩ := exec_cases i s
  · exact ⟨_, _, _, h.trans hx, fun _ => rfl⟩
  · exact ⟨_, _, _, h.trans hx, fun _ => rfl⟩
  · exact ⟨_, _, _, h.trans hx, fun hne => absurd hdecode hne⟩

/-- The block answers every command, and the answer differs from the state in the port and CSR only. -/
theorem commandResult_writes (s : State) (c : Command) : ∃ csr r err,
    executePort (s.present c) = .next (commandResult s c) ∧
    commandResult s c = { s.present c with csr := csr, r := r, err := err } ∧
    (decode c.cmd ≠ .ok .setcsr → csr = s.csr) := by
  obtain ⟨csr, r, err, h, hkeep⟩ := executePort_writes (s.present c)
  have hresult := commandResult_of_executePort h
  exact ⟨csr, r, err, by rw [hresult, h], hresult, hkeep⟩

theorem executePort_present (s : State) (c : Command) : executePort (s.present c) = .next (commandResult s c) := by
  obtain ⟨_, _, _, h, -⟩ := commandResult_writes s c
  exact h

@[simp] theorem commandResult_requesters (s : State) (c : Command) : (commandResult s c).requesters = s.requesters := by
  obtain ⟨_, _, _, -, h, -⟩ := commandResult_writes s c
  rw [h]
  rfl

@[simp] theorem commandResult_schedule (s : State) (c : Command) : (commandResult s c).schedule = s.schedule := by
  obtain ⟨_, _, _, -, h, -⟩ := commandResult_writes s c
  rw [h]
  rfl

theorem commandResult_csr_of_ne_setcsr (s : State) {c : Command} (hne : decode c.cmd ≠ .ok .setcsr) :
    (commandResult s c).csr = s.csr := by
  obtain ⟨_, _, _, -, h, hkeep⟩ := commandResult_writes s c
  rw [h]
  exact hkeep hne

/-- Of the state that a command finds, its answer depends on CSR alone; the requesters and their schedule go through (R35). -/
theorem commandResult_of_csr_eq {s t : State} (c : Command) (hcsr : s.csr = t.csr) :
    commandResult s c = (commandResult t c).withInput s.requesters s.schedule := by
  obtain ⟨s', t', hs, ht, hr, herr, hkeep⟩ :=
    executePort_answersAlike (s := s.present c) (t := t.present c) rfl rfl rfl hcsr
  obtain rfl := commandResult_of_executePort hs
  obtain rfl := commandResult_of_executePort ht
  have hcsr' := hkeep hcsr
  obtain ⟨_, _, _, -, hs, -⟩ := commandResult_writes s c
  obtain ⟨_, _, _, -, ht, -⟩ := commandResult_writes t c
  rw [hs, ht] at hr herr hcsr' ⊢
  obtain rfl := hr
  obtain rfl := herr
  obtain rfl := hcsr'
  rfl

theorem commandResult_congr {s t : State} (c : Command) (hcsr : s.csr = t.csr) (hreq : s.requesters = t.requesters)
    (hsched : s.schedule = t.schedule) : commandResult s c = commandResult t c := by
  rw [commandResult_of_csr_eq c hcsr, hreq, hsched, ← commandResult_of_csr_eq c rfl]

/-- The block does not see the requesters (R290). -/
@[simp] theorem commandResult_withInput (s : State) (queues : List (List Command)) (schedule : List Nat) (c : Command) :
    commandResult (s.withInput queues schedule) c = (commandResult s c).withInput queues schedule :=
  commandResult_of_csr_eq c rfl

/-! ### What the command after SETCSR sees (R45, R313) -/

theorem commandResult_csr_of_setcsr (s : State) {c : Command} (hdecode : decode c.cmd = .ok .setcsr)
    (hzero : c.a.extractLsb' 16 16 = 0) : (commandResult s c).csr = c.a.extractLsb' 0 32 := by
  have h : exec .setcsr (s.present c) = .next (((s.present c).writeCsr (c.a.extractLsb' 0 32)).complete 0) :=
    if_neg (not_not_intro hzero)
  rw [commandResult_of_exec hdecode h]
  rfl

theorem ofCode_eq_modeOf (rc : BitVec 2) : RoundingMode.ofCode rc = modeOf rc := by
  revert rc
  decide

theorem csrRC_extractLsb' (a : Vec256) : csrRC (a.extractLsb' 0 32) = a.extractLsb' 13 2 := by
  apply BitVec.eq_of_getLsbD_eq
  intro j hj
  simp [csrRC, hj]

theorem extractLsb'_high_eq_zero {sel : Imm8} (h : sel.toNat < 0x10) : sel.extractLsb' 4 4 = 0 := by
  apply BitVec.eq_of_toNat_eq
  simp only [BitVec.extractLsb'_toNat, BitVec.ofNat_eq_ofNat, BitVec.toNat_ofNat]
  omega

/-- With IMM8[2] set a conversion is made in the mode of CSR.RC (R237). -/
theorem converting_of_current_mode {sel : Imm8} (hrange : sel.toNat < 0x10) (hcur : sel.getLsbD 2 = true) (s : State)
    (result : RoundingMode → Vec256) :
    converting sel s result = .next (s.complete (result (modeOf (csrRC s.csr)))) := by
  obtain ⟨hne, -⟩ | ⟨-, h⟩ := converting_cases sel s result
  · exact absurd (extractLsb'_high_eq_zero hrange) hne
  · rw [h, if_pos hcur, csrRC_readCsr, ofCode_eq_modeOf]

theorem extractLsb'_ofLanes_above {n w count : Nat} (f : Nat → BitVec w) (hw : 0 < w) (m : Nat) :
    (ofLanes n w count f).extractLsb' (w * count) m = 0 := by
  apply BitVec.eq_of_getLsbD_eq
  intro j _
  rw [BitVec.getLsbD_extractLsb', ofLanes_bit_above n w count f hw _ (Nat.le_add_right _ _)]
  simp

/-- A CSR whose reserved bits are zero reads as itself (R32). -/
theorem setWidth_of_csrReserved {c : CsrWord} (h : csrReserved c = 0) :
    (c.extractLsb' 0 16).setWidth 256 = c.setWidth 256 := by
  have hlt := toNat_lt_of_csrReserved h
  apply BitVec.eq_of_toNat_eq
  simp only [BitVec.extractLsb'_toNat, BitVec.toNat_setWidth]
  omega

/-! ### Turns (R45, R46) -/

/-- A turn of a requester with a command to issue drives it on the port and executes it. -/
theorem step_of_issue {s : State} {k : Nat} {ks : List Nat} {c : Command} {cs : List Command}
    (hsched : s.schedule = k :: ks) (hqueue : s.requesters[k]? = some (c :: cs)) :
    step s = executePort ((s.withInput (s.requesters.set k cs) ks).present c) := by
  simp only [step, State.takeTurn, State.withInput, hsched, hqueue]

/-- Whether a requester has a command to issue. -/
theorem queue_cases (queues : List (List Command)) (k : Nat) :
    (∃ c cs, queues[k]? = some (c :: cs)) ∨ queues[k]? = none ∨ queues[k]? = some [] := by
  match queues[k]? with
  | none => exact .inr (.inl rfl)
  | some [] => exact .inr (.inr rfl)
  | some (c :: cs) => exact .inl ⟨c, cs, rfl⟩

theorem step_withInput_of_issue {s : State} {queues : List (List Command)} {k : Nat} {c : Command} {cs : List Command}
    (hqueue : queues[k]? = some (c :: cs)) (ks : List Nat) :
    step (s.withInput queues (k :: ks)) = .next ((commandResult s c).withInput (queues.set k cs) ks) := by
  rw [step_of_issue rfl hqueue, executePort_present, commandResult_withInput, commandResult_withInput]
  rfl

theorem step_withInput_of_idle {s : State} {queues : List (List Command)} {k : Nat}
    (hqueue : queues[k]? = none ∨ queues[k]? = some []) (ks : List Nat) :
    step (s.withInput queues (k :: ks)) = .next (s.withInput queues ks) := by
  obtain h | h := hqueue <;> simp only [step, State.takeTurn, State.withInput, h]

/-! ### The issues of a schedule, and what it leaves -/

/-- What a schedule leaves of the requesters' sequences, turn by turn: what `issuesOf` does not issue. -/
def leftOf : List Nat → List (List Command) → List (List Command)
  | [], queues => queues
  | k :: ks, queues =>
    match queues[k]? with
    | some (_ :: cs) => leftOf ks (queues.set k cs)
    | _ => leftOf ks queues

theorem issuesOf_cons_of_issue {queues : List (List Command)} {k : Nat} {c : Command} {cs : List Command}
    (hqueue : queues[k]? = some (c :: cs)) (ks : List Nat) :
    issuesOf (k :: ks) queues = (k, c) :: issuesOf ks (queues.set k cs) := by
  simp only [issuesOf, hqueue]

theorem issuesOf_cons_of_idle {queues : List (List Command)} {k : Nat}
    (hqueue : queues[k]? = none ∨ queues[k]? = some []) (ks : List Nat) :
    issuesOf (k :: ks) queues = issuesOf ks queues := by
  obtain h | h := hqueue <;> simp only [issuesOf, h]

theorem leftOf_cons_of_issue {queues : List (List Command)} {k : Nat} {c : Command} {cs : List Command}
    (hqueue : queues[k]? = some (c :: cs)) (ks : List Nat) :
    leftOf (k :: ks) queues = leftOf ks (queues.set k cs) := by
  simp only [leftOf, hqueue]

theorem leftOf_cons_of_idle {queues : List (List Command)} {k : Nat}
    (hqueue : queues[k]? = none ∨ queues[k]? = some []) (ks : List Nat) :
    leftOf (k :: ks) queues = leftOf ks queues := by
  obtain h | h := hqueue <;> simp only [leftOf, h]

/-- A schedule's run executes its issues one after the other, and ends with what it leaves (R44, R45). -/
theorem runSteps_withInput (schedule : List Nat) (s : State) (queues : List (List Command)) :
    runSteps schedule.length (s.withInput queues schedule) =
      .next ((commandsResult s ((issuesOf schedule queues).map Prod.snd)).withInput (leftOf schedule queues) []) := by
  induction schedule generalizing s queues with
  | nil => rfl
  | cons k ks ih =>
    obtain ⟨c, cs, hissue⟩ | hidle := queue_cases queues k
    · rw [List.length_cons, runSteps_succ_of_next (step_withInput_of_issue hissue ks), ih,
        issuesOf_cons_of_issue hissue, leftOf_cons_of_issue hissue]
      rfl
    · rw [List.length_cons, runSteps_succ_of_next (step_withInput_of_idle hidle ks), ih,
        issuesOf_cons_of_idle hidle, leftOf_cons_of_idle hidle]

theorem length_leftOf (schedule : List Nat) (queues : List (List Command)) :
    (leftOf schedule queues).length = queues.length := by
  induction schedule generalizing queues with
  | nil => rfl
  | cons k ks ih =>
    obtain ⟨c, cs, hissue⟩ | hidle := queue_cases queues k
    · rw [leftOf_cons_of_issue hissue, ih, List.length_set]
    · rw [leftOf_cons_of_idle hidle, ih]

/-- A schedule issues commands of the requesters there are. -/
theorem fst_lt_of_mem_issuesOf {schedule : List Nat} {queues : List (List Command)} {x : Issue}
    (hx : x ∈ issuesOf schedule queues) : x.1 < queues.length := by
  induction schedule generalizing queues with
  | nil => cases hx
  | cons k ks ih =>
    obtain ⟨c, cs, hissue⟩ | hidle := queue_cases queues k
    · rw [issuesOf_cons_of_issue hissue] at hx
      obtain rfl | hx := List.mem_cons.mp hx
      · exact (List.getElem?_eq_some_iff.mp hissue).1
      · exact (ih hx).trans_eq List.length_set
    · rw [issuesOf_cons_of_idle hidle] at hx
      exact ih hx

/-! ### Each requester's own order (R45) -/

@[simp] theorem issuedBy_cons_self (k : Nat) (c : Command) (run : List Issue) :
    issuedBy k ((k, c) :: run) = c :: issuedBy k run := by
  simp [issuedBy]

theorem issuedBy_cons_of_ne {j k : Nat} (hne : j ≠ k) (c : Command) (run : List Issue) :
    issuedBy k ((j, c) :: run) = issuedBy k run := by
  simp [issuedBy, hne]

theorem getD_of_getElem?_eq_some {queues : List (List Command)} {k : Nat} {q : List Command} (h : queues[k]? = some q) :
    queues.getD k [] = q := by
  rw [List.getD_eq_getElem?_getD, h, Option.getD_some]

theorem getD_set_self {queues : List (List Command)} {k : Nat} (hk : k < queues.length) (q : List Command) :
    (queues.set k q).getD k [] = q :=
  getD_of_getElem?_eq_some (List.getElem?_set_self hk)

theorem getD_set_of_ne {j k : Nat} (hne : j ≠ k) (queues : List (List Command)) (q : List Command) :
    (queues.set j q).getD k [] = queues.getD k [] := by
  rw [List.getD_eq_getElem?_getD, List.getElem?_set_ne hne, List.getD_eq_getElem?_getD]

/-- What a requester has issued under a schedule, then what it has left, is its sequence. -/
theorem issuedBy_append_leftOf (schedule : List Nat) (queues : List (List Command)) (k : Nat) :
    issuedBy k (issuesOf schedule queues) ++ (leftOf schedule queues).getD k [] = queues.getD k [] := by
  induction schedule generalizing queues with
  | nil => rfl
  | cons j ks ih =>
    obtain ⟨c, cs, hissue⟩ | hidle := queue_cases queues j
    · rw [issuesOf_cons_of_issue hissue, leftOf_cons_of_issue hissue]
      obtain rfl | hne := eq_or_ne j k
      · have hlt := (List.getElem?_eq_some_iff.mp hissue).1
        rw [issuedBy_cons_self, List.cons_append, ih, getD_set_self hlt, getD_of_getElem?_eq_some hissue]
      · rw [issuedBy_cons_of_ne hne, ih, getD_set_of_ne hne]
    · rw [issuesOf_cons_of_idle hidle, leftOf_cons_of_idle hidle, ih]

/-! ### Interleavings (R46) -/

/-- The first issue of an interleaving is its requester's first command, and the others interleave what remains. -/
theorem Interleaves.of_cons {queues : List (List Command)} {k : Nat} {c : Command} {run : List Issue}
    (h : Interleaves queues ((k, c) :: run)) : ∃ cs, queues[k]? = some (c :: cs) ∧ Interleaves (queues.set k cs) run := by
  obtain ⟨hrange, horder⟩ := h
  have hk : k < queues.length := hrange (k, c) List.mem_cons_self
  have hown : queues.getD k [] = c :: issuedBy k run := by rw [← horder, issuedBy_cons_self]
  refine ⟨issuedBy k run, ?_, fun x hx => ?_, fun j => ?_⟩
  · rw [← hown, List.getD_eq_getElem _ _ hk, List.getElem?_eq_getElem hk]
  · rw [List.length_set]
    exact hrange x (List.mem_cons_of_mem _ hx)
  · obtain rfl | hne := eq_or_ne k j
    · rw [getD_set_self hk]
    · rw [getD_set_of_ne hne, ← horder, issuedBy_cons_of_ne hne]

/-- An interleaving is what the schedule of its own requester numbers issues. -/
theorem issuesOf_of_interleaves {queues : List (List Command)} {run : List Issue} (h : Interleaves queues run) :
    issuesOf (run.map Prod.fst) queues = run := by
  induction run generalizing queues with
  | nil => rfl
  | cons x run ih =>
    obtain ⟨cs, hqueue, hrest⟩ := Interleaves.of_cons h
    rw [List.map_cons, issuesOf_cons_of_issue hqueue, ih hrest]

/-- A schedule that issues every requester's whole sequence leaves nothing. -/
theorem leftOf_of_issuedBy {schedule : List Nat} {queues : List (List Command)}
    (h : ∀ k, issuedBy k (issuesOf schedule queues) = queues.getD k []) :
    leftOf schedule queues = queues.map fun _ => [] := by
  apply List.ext_getElem
  · rw [length_leftOf, List.length_map]
  intro k hk _
  have hsplit := issuedBy_append_leftOf schedule queues k
  rw [h, List.append_right_eq_self, List.getD_eq_getElem _ _ hk] at hsplit
  rw [hsplit, List.getElem_map]

end Sys2Proof.Machine

namespace Sys2Proof.Proofs

/-- Settles O42: the turn drives the command, and the port runs what its word decodes to. -/
theorem stepRunsTheDecodedCommand : Obligations.StepRunsTheDecodedCommand := by
  intro s k ks c cs i hsched hqueue hdecode
  rw [step_of_issue hsched hqueue]
  exact executePort_of_decode hdecode

/-- Settles O50: the first answer leaves CSR as it was, and the second depends on nothing else. -/
theorem commandsExceptSetcsrAreIdempotent : Obligations.CommandsExceptSetcsrAreIdempotent := by
  intro s c hne
  exact commandResult_congr c (commandResult_csr_of_ne_setcsr s hne) (commandResult_requesters s c)
    (commandResult_schedule s c)

/-- Settles O52: SETCSR leaves A[31:0] in CSR, which the converter's mode and GETCSR's result are read from. -/
theorem setcsrIsSeenByTheNextCommand : Obligations.SetcsrIsSeenByTheNextCommand := by
  intro s set follow hset hzero
  have hcsr : ((commandResult s set).present follow).csr = set.a.extractLsb' 0 32 := commandResult_csr_of_setcsr s hset hzero
  refine ⟨fun sel hrange hcur => ?_, fun hfollow => ?_⟩
  · rw [← csrRC_extractLsb', ← hcsr]
    have hconvert := converting_of_current_mode hrange hcur ((commandResult s set).present follow)
    refine ⟨fun hfollow => ?_, fun hfollow => ?_⟩
    · rw [commandResult_of_exec hfollow (hconvert _)]
      exact ⟨lane_ofLanes_of_lt 256 16 4 _ (by decide), extractLsb'_ofLanes_above _ (by decide) 192, rfl⟩
    · rw [commandResult_of_exec hfollow (hconvert _)]
      exact ⟨lane_ofLanes_of_lt 256 16 8 _ (by decide), extractLsb'_ofLanes_above _ (by decide) 128, rfl⟩
  · have hread := exec_getcsr ((commandResult s set).present follow)
    rw [hcsr, setWidth_of_csrReserved ((csrReserved_extractLsb' set.a).trans hzero)] at hread
    rw [commandResult_of_exec hfollow hread]
    exact ⟨rfl, rfl⟩

/-- Settles O54: the run executes the schedule's issues and ends with what the schedule leaves. -/
theorem everyScheduleKeepsProgramOrder : Obligations.EveryScheduleKeepsProgramOrder := by
  intro s queues schedule
  exact ⟨_, leftOf schedule queues, rfl, runSteps_withInput schedule s queues, length_leftOf schedule queues,
    fun _ => fst_lt_of_mem_issuesOf, issuedBy_append_leftOf schedule queues⟩

/-- Settles O53: the interleaving's own schedule issues the interleaving, which is all that the requesters have. -/
theorem everyInterleavingIsARun : Obligations.EveryInterleavingIsARun := by
  intro s queues run h
  have hissues := issuesOf_of_interleaves h
  obtain ⟨-, horder⟩ := h
  have hrun := runSteps_withInput (run.map Prod.fst) s queues
  rwa [List.length_map, leftOf_of_issuedBy (by rwa [hissues]), hissues] at hrun

end Sys2Proof.Proofs
end

section
/-! PROOFS of the statements about the encoding and about the 256-bit forms (O36 to O41, O43): a word decodes to the command
whose fields it holds, R64's lists are R63's table filtered, and the two forms of a lane-wise operation apply one operation
on 128 bits. -/

open Sys2Proof Sys2Proof.Machine Sys2Proof.Claims

namespace Sys2Proof

/-! ### Commands and the rows of R63 -/

/-- The fields of the command in a row of R63. -/
theorem Op.fields_of_instr {o : Op} {w : Bool} {imm : Imm8} {i : Instr} (h : o.instr w imm = some i) :
    i.op = o ∧ i.w256 = w ∧ i.imm = if o.immUse = .mustBeZero then 0 else imm := by
  cases o <;> cases w <;> cases h <;> exact ⟨rfl, rfl, rfl⟩

/-- Every command stands in the row of its own fields. -/
theorem Instr.instr_op (i : Instr) : i.op.instr i.w256 i.imm = some i := by cases i <;> rfl

theorem Instr.imm_eq_zero {i : Instr} (h : i.op.immUse = .mustBeZero) : i.imm = 0 := by
  obtain ⟨-, -, himm⟩ := Op.fields_of_instr i.instr_op
  rwa [if_pos h] at himm

/-- A code stands for one operation at most (R63). -/
theorem Op.ofCode_eq_some_iff {c : BitVec 8} {o : Op} : Op.ofCode c = some o ↔ o.code = c :=
  ⟨Op.code_of_ofCode, fun h => by rw [← h, Op.ofCode_code]⟩

/-! ### Decoding as agreement of the fields (R60, R71) -/

/-- A word decodes to a command exactly when RSV is zero and the other fields are the command's. -/
theorem decode_eq_ok_iff_fields {w : CommandWord} {i : Instr} :
    decode w = .ok i ↔
      rsvField w = 0 ∧ opField w = i.op.code ∧ widthField w = i.w256 ∧ immField w = i.imm := by
  constructor
  · intro h
    obtain ⟨-, he⟩ | ⟨-, -, he⟩ | ⟨o, hrsv, ho, ⟨-, -, he⟩ | ⟨-, -, he⟩ | ⟨j, hz, hj, he⟩⟩ := decode_cases w
    · cases he.symm.trans h
    · cases he.symm.trans h
    · cases he.symm.trans h
    · cases he.symm.trans h
    obtain rfl : j = i := Except.ok.inj (he.symm.trans h)
    obtain ⟨hop, hwidth, himm⟩ := Op.fields_of_instr hj
    refine ⟨hrsv, by rw [hop, Op.code_of_ofCode ho], hwidth.symm, ?_⟩
    rw [himm]
    split
    next hzero => exact by_contra fun hne => hz ⟨hzero, hne⟩
    next => rfl
  · rintro ⟨hrsv, hop, hwidth, himm⟩
    have hzero : ¬(i.op.immUse = .mustBeZero ∧ i.imm ≠ 0) := fun ⟨h, hne⟩ => hne (Instr.imm_eq_zero h)
    simp only [decode, hrsv, hop, hwidth, himm, Op.ofCode_code, Instr.instr_op, if_neg hzero, ne_eq, not_true_eq_false,
      if_false]

/-- The one word of a command is the one that the assembler builds. -/
theorem decode_eq_ok_iff_encode {w : CommandWord} {i : Instr} : decode w = .ok i ↔ encode i = w := by
  rw [decode_eq_ok_iff_fields]
  constructor
  · rintro ⟨hrsv, hop, hwidth, himm⟩
    apply word_eq_of_fields <;> simp only [encode, opField_assembleWord, immField_assembleWord, widthField_assembleWord,
      rsvField_assembleWord, hrsv, hop, hwidth, himm]
  · rintro rfl
    exact ⟨rsvField_assembleWord _ _ _, opField_assembleWord _ _ _, widthField_assembleWord _ _ _,
      immField_assembleWord _ _ _⟩

/-! ### R64's lists as parts of R63's table -/

/-- The operation has a 256-bit form (the W column of R63). -/
def Op.hasWide (o : Op) : Bool := (o.instr true 0).isSome

/-- Only the 256-bit form can be missing. -/
theorem Op.instr_eq_none_iff {o : Op} {w : Bool} {imm : Imm8} : o.instr w imm = none ↔ w = true ∧ o.hasWide = false := by
  cases o <;> cases w <;> simp [Op.instr, Op.hasWide]

theorem Op.mem_all (o : Op) : o ∈ Op.all := by cases o <;> decide

/-- The codes of the operations with a property are the codes that stand for such an operation. -/
theorem Op.contains_code_filter (q : Op → Bool) (c : BitVec 8) :
    ((Op.all.filter q).map Op.code).contains c = (Op.ofCode c).any q := by
  rw [Bool.eq_iff_iff, List.contains_iff_mem, Option.any_eq_true]
  simp only [List.mem_map, List.mem_filter, Op.mem_all, true_and, Op.ofCode_eq_some_iff, and_comm]

/-- The numbers of R64 are the codes of R63's rows: all of them, those without a 256-bit form, those with an immediate. -/
theorem reservedWord_eq_checks (w : CommandWord) :
    reservedWord w =
      (rsvField w != 0
        || !(Op.ofCode (opField w)).any (fun _ => true)
        || (widthField w && (Op.ofCode (opField w)).any fun o => !o.hasWide)
        || (immField w != 0 && !(Op.ofCode (opField w)).any fun o => o.immUse != .mustBeZero)) := by
  simp only [← Op.contains_code_filter]
  rfl

theorem reservedWord_of_rsvField_ne_zero {w : CommandWord} (h : rsvField w ≠ 0) : reservedWord w = true := by
  rw [reservedWord_eq_checks, bne_iff_ne.mpr h, Bool.true_or, Bool.true_or, Bool.true_or]

theorem reservedWord_of_ofCode_eq_none {w : CommandWord} (h : Op.ofCode (opField w) = none) : reservedWord w = true := by
  simp [reservedWord_eq_checks, h]

theorem reservedWord_iff_of_ofCode_eq_some {w : CommandWord} {o : Op} (h : Op.ofCode (opField w) = some o) :
    reservedWord w = true ↔
      rsvField w ≠ 0 ∨ (widthField w = true ∧ o.hasWide = false) ∨ (o.immUse = .mustBeZero ∧ immField w ≠ 0) := by
  simp [reservedWord_eq_checks, h, or_assoc, and_comm]

/-- The decoder's checks find what R64 lists, whichever comes first. -/
theorem reservedWord_iff_decode_error (w : CommandWord) : reservedWord w = true ↔ ∃ e, decode w = .error e := by
  obtain ⟨hrsv, he⟩ | ⟨-, ho, he⟩ | ⟨o, hrsv, ho, h⟩ := decode_cases w
  · exact iff_of_true (reservedWord_of_rsvField_ne_zero hrsv) ⟨_, he⟩
  · exact iff_of_true (reservedWord_of_ofCode_eq_none ho) ⟨_, he⟩
  · rw [reservedWord_iff_of_ofCode_eq_some ho, ← Op.instr_eq_none_iff (imm := immField w)]
    obtain ⟨hz, hne, he⟩ | ⟨-, hnone, he⟩ | ⟨i, hz, hi, he⟩ := h
    · exact iff_of_true (.inr (.inr ⟨hz, hne⟩)) ⟨_, he⟩
    · exact iff_of_true (.inr (.inl hnone)) ⟨_, he⟩
    · exact iff_of_false (by simpa [hrsv, hi] using hz) (by simp [he])

end Sys2Proof

namespace Sys2Proof.Machine

/-! ### Assembler lines (R69, R70) -/

/-- A line assembles to the command whose word it has. -/
theorem assemble_of_word_eq_encode {l : AsmLine} {i : Instr} (h : l.word = some (encode i)) : assemble l = some i := by
  simp only [assemble, h, decode_eq_ok_iff_encode.mpr rfl]

/-! ### The two forms of a lane-wise operation (R61, R62) -/

/-- One operation on 128 bits is what the 128-bit form applies to the low halves, and the 256-bit form to both halves. -/
def SharesOp (narrow wide : Instr) : Prop :=
  ∃ op, ∀ s, Completes narrow s (form128 op s.a s.b) ∧ Completes wide s (form256 op s.a s.b)

theorem comparing_of_row {p : Imm8} {row : PredicateRow} (h : predicateOf p = some row) (s : State)
    (result : PredicateRow → Vec256) : comparing p s result = .next (s.complete (result row)) := by
  simp only [comparing, h]

theorem sharesOp_cmpps {p : Imm8} {row : PredicateRow} (h : predicateOf p = some row) :
    SharesOp (.cmpps128 p) (.cmpps256 p) :=
  ⟨zipLanes 32 4 (compareLane binary32 row), fun s => ⟨comparing_of_row h s _, comparing_of_row h s _⟩⟩

theorem sharesOp_cmppd {p : Imm8} {row : PredicateRow} (h : predicateOf p = some row) :
    SharesOp (.cmppd128 p) (.cmppd256 p) :=
  ⟨zipLanes 64 2 (compareLane binary64 row), fun s => ⟨comparing_of_row h s _, comparing_of_row h s _⟩⟩

/-- The pairs of R63 share their operation: the integer ones by their definitions, the compares through the row of their
code. -/
theorem sharesOp_of_mem_laneWisePairs {p : Imm8} (hp : p.toNat ≤ 0x1F) {pair : Instr × Instr}
    (hpair : pair ∈ laneWisePairs p) : SharesOp pair.1 pair.2 := by
  have hsome : predicateOf p ≠ none := fun h => absurd ((predicateOf_eq_none_iff p).mp h) (by omega)
  obtain ⟨row, hrow⟩ := Option.ne_none_iff_exists'.mp hsome
  simp only [laneWisePairs, List.mem_cons, List.not_mem_nil, or_false] at hpair
  obtain rfl | rfl | rfl | rfl | rfl | rfl | rfl | rfl | rfl | rfl | rfl | rfl | rfl | rfl | rfl | rfl | rfl | rfl | rfl |
    rfl | rfl | rfl := hpair
  rotate_right 2
  · exact sharesOp_cmpps hrow
  · exact sharesOp_cmppd hrow
  all_goals exact ⟨_, fun _ => ⟨rfl, rfl⟩⟩

/-- The 256-bit form is the 128-bit form on the low halves of the ports and on their high halves moved there. -/
theorem form256_eq_append_form128 (op : Vec128 → Vec128 → Vec128) (a b : Vec256) :
    form256 op a b =
      low128 (form128 op ((high128 a).setWidth 256) ((high128 b).setWidth 256)) ++
        low128 (form128 op ((low128 a).setWidth 256) ((low128 b).setWidth 256)) := by
  simp only [form256, low128_form128, low128_setWidth]

end Sys2Proof.Machine

namespace Sys2Proof.Proofs

/-- Settles O37: the fields of the assembled word are the command's, and by them it decodes. -/
theorem decodeInvertsEncode : Obligations.DecodeInvertsEncode := by
  intro i
  have hdecode : decode (encode i) = .ok i := decode_eq_ok_iff_encode.mpr rfl
  obtain ⟨hrsv, hop, hwidth, himm⟩ := decode_eq_ok_iff_fields.mp hdecode
  exact ⟨hdecode, hop, himm, hwidth, hrsv⟩

/-- Settles O38: a word that decodes agrees with the command's word in every field, and the fields are all of the word. -/
theorem encodeInvertsDecode : Obligations.EncodeInvertsDecode :=
  fun _ _ => decode_eq_ok_iff_encode.mp

/-- Settles O36, by the operation on 128 bits that the two forms share. -/
theorem wideFormsComposeFromHalves : Obligations.WideFormsComposeFromHalves := by
  intro p s hp pair hpair
  obtain ⟨op, hop⟩ := sharesOp_of_mem_laneWisePairs hp hpair
  exact ⟨_, _, _, (hop s).2, (hop _).1, (hop _).1, form256_eq_append_form128 op s.a s.b⟩

/-- Settles O39: a word is decoded or refused, and it is refused where R64 lists it. -/
theorem decodeRefusesExactlyReservedWords : Obligations.DecodeRefusesExactlyReservedWords := by
  intro w
  rw [← Bool.not_eq_true, reservedWord_iff_decode_error]
  cases decode w <;> simp

/-- Settles O40: each word is the assembled word of its command. -/
theorem writtenOutWordsDecode : Obligations.WrittenOutWordsDecode := by
  simp only [Obligations.WrittenOutWordsDecode, decode_eq_ok_iff_encode]
  decide

/-- Settles O41: the expansion's word is that of the CMP command with the code of the condition's predicate name, which
R174's table gives, or of the conversion with the code of the rounding name. -/
theorem pseudoInstructionsExpand : Obligations.PseudoInstructionsExpand := by
  constructor
  · intro x hx
    have hcode : x.1.predicate.code = x.2 := by
      revert x
      decide
    rw [← hcode]
    refine ⟨?_, ?_, ?_, ?_, ?_, ?_⟩ <;> exact assemble_of_word_eq_encode rfl
  · intro x hx
    have hwords : (x.1.expand none).word = some (encode (.vcvtps2ph128 x.2)) ∧
        (x.1.expand (some .w256)).word = some (encode (.vcvtps2ph256 x.2)) := by
      revert x
      decide
    obtain ⟨hnarrow, hwide⟩ := hwords
    exact ⟨assemble_of_word_eq_encode hnarrow, assemble_of_word_eq_encode hwide⟩

/-- Settles O43: the turn drives the command, and the port refuses its word before anything else. -/
theorem reservedWordRaisesReservedEncoding : Obligations.ReservedWordRaisesReservedEncoding := by
  intro s k ks c cs hsched hqueue hreserved
  obtain ⟨e, herror⟩ := (reservedWord_iff_decode_error c.cmd).mp hreserved
  rw [step_of_issue hsched hqueue]
  obtain ⟨-, -, h⟩ | ⟨i, hok, -⟩ := executePort_cases ((s.withInput (s.requesters.set k cs) ks).present c)
  · exact h
  · cases herror.symm.trans hok

end Sys2Proof.Proofs
end

section
/-! PROOFS of the statements about saturation (O1 to O4, O58): the clamp by where its argument lies, the bits of a saturated
value read back, and the lanes of the two forms of a lane by lane operation (R10, R100 to R111). -/

open Sys2Proof Sys2Proof.Machine Sys2Proof.Claims

namespace Sys2Proof

/-! ### The words of an operation with two forms and no immediate (R63, R64) -/

/-- W is bit 16, clear of OP, so that setting it adds. -/
theorem assembleWord_wide_zero (op : BitVec 8) : assembleWord true 0 op = op.setWidth 32 + 0x00010000 := by
  have hop : op.toNat < 2 ^ 8 := op.isLt
  have hor : 65536 ||| op.toNat = 65536 + op.toNat := (Nat.two_pow_add_eq_or_of_lt (i := 16) (by omega) 1).symm
  have hnarrow : op.toNat % 4294967296 = op.toNat := Nat.mod_eq_of_lt (by omega)
  have hwide : (op.toNat + 65536) % 4294967296 = 65536 + op.toNat := by omega
  apply BitVec.eq_of_toNat_eq
  simp [assembleWord, hnarrow, hwide, hor]

/-- A word that decodes to a command without an immediate is one of the two that its OP has. -/
theorem word_eq_of_decode_eq_ok {o : Op} {i : Instr} {w : CommandWord} (himm : o.immUse = .mustBeZero)
    (hop : opField w = o.code) (h : decode w = .ok i) : w = assembleWord i.w256 0 o.code := by
  obtain ⟨-, hcode, -, -⟩ := decode_eq_ok_iff_fields.mp h
  obtain rfl : i.op = o := by
    rw [← Option.some_inj, ← Op.ofCode_code, ← hcode, hop, Op.ofCode_code]
  rw [← decode_eq_ok_iff_encode.mp h, encode, Instr.imm_eq_zero himm]

/-- The word of a row of R63 without an immediate. -/
theorem decode_assembleWord_of_instr {o : Op} {width : Bool} {i : Instr} (himm : o.immUse = .mustBeZero)
    (h : o.instr width 0 = some i) : decode (assembleWord width 0 o.code) = .ok i := by
  obtain ⟨hop, hwidth, hzero⟩ := Op.fields_of_instr h
  rw [if_pos himm] at hzero
  rw [decode_eq_ok_iff_encode, encode, hop, hwidth, hzero]

/-- An operation without an immediate has its two words and no other (R63, R64). -/
theorem twoForms_of_op {o : Op} {i128 i256 : Instr} (himm : o.immUse = .mustBeZero)
    (hnarrow : o.instr false 0 = some i128) (hwide : o.instr true 0 = some i256) : TwoForms o.code i128 i256 := by
  intro w hop
  rw [← assembleWord_wide_zero, ← assembleWord_narrow_zero]
  split
  next hw => rw [hw, decode_assembleWord_of_instr himm hnarrow]
  next hnotNarrow =>
    split
    next hw => rw [hw, decode_assembleWord_of_instr himm hwide]
    next hnotWide =>
      cases hdecode : decode w with
      | error e => exact ⟨e, rfl⟩
      | ok i =>
        have hword := word_eq_of_decode_eq_ok himm hop hdecode
        cases hw256 : i.w256 with
        | false => exact absurd (hw256 ▸ hword) hnotNarrow
        | true => exact absurd (hw256 ▸ hword) hnotWide

end Sys2Proof

namespace Sys2Proof.Machine

/-! ### The clamp (R10, R100) -/

theorem clamp_of_mem {x lo hi : Int} (h₁ : lo ≤ x) (h₂ : x ≤ hi) : clamp x lo hi = x := by
  rw [clamp, if_neg h₁.not_gt, if_neg h₂.not_gt]

theorem clamp_of_lt_lo {x lo hi : Int} (h : x < lo) : clamp x lo hi = lo := if_pos h

theorem clamp_of_hi_lt {x lo hi : Int} (hbounds : lo ≤ hi) (h : hi < x) : clamp x lo hi = hi := by
  rw [clamp, if_neg (hbounds.trans h.le).not_gt, if_pos h]

theorem lo_le_clamp {lo hi : Int} (hbounds : lo ≤ hi) (x : Int) : lo ≤ clamp x lo hi := by
  rw [clamp_eq_max_min x lo hi hbounds]
  exact le_max_left _ _

theorem clamp_le_hi {lo hi : Int} (hbounds : lo ≤ hi) (x : Int) : clamp x lo hi ≤ hi := by
  rw [clamp_eq_max_min x lo hi hbounds]
  exact max_le hbounds (min_le_left _ _)

/-! ### A saturated value and its bits (R100) -/

/-- A target type within the signed range of the lane reads back as its clamped value. -/
theorem toInt_saturate {t : SatType} {w : Nat} (hw : 0 < w) (hlo : -2 ^ (w - 1) ≤ t.lo) (hhi : t.hi < 2 ^ (w - 1))
    (x : Int) : (saturate t w x).toInt = clamp x t.lo t.hi :=
  BitVec.toInt_ofInt_eq_self hw (hlo.trans (lo_le_clamp t.lo_le_hi x)) ((clamp_le_hi t.lo_le_hi x).trans_lt hhi)

/-- A target type within the unsigned range of the lane reads back as its clamped value. -/
theorem toNat_saturate {t : SatType} {w : Nat} (hlo : 0 ≤ t.lo) (hhi : t.hi < 2 ^ w) (x : Int) :
    ((saturate t w x).toNat : Int) = clamp x t.lo t.hi := by
  have hnonneg : 0 ≤ clamp x t.lo t.hi := hlo.trans (lo_le_clamp t.lo_le_hi x)
  have hlt : clamp x t.lo t.hi < 2 ^ w := (clamp_le_hi t.lo_le_hi x).trans_lt hhi
  rw [saturate, BitVec.toNat_ofInt, Nat.cast_pow, Nat.cast_ofNat, Int.emod_eq_of_lt hnonneg hlt, Int.toNat_of_nonneg hnonneg]

/-- Saturation in the words of the statements. -/
theorem saturate_eq_ofInt_within (t : SatType) (w : Nat) (x : Int) :
    saturate t w x = BitVec.ofInt w (within t.lo t.hi x) := by
  rw [saturate, clamp_eq_max_min x t.lo t.hi t.lo_le_hi, within]

/-! ### The lanes of the two forms (R61, R62) -/

theorem lane_form128_zipLanes {w count : Nat} (hfit : w * count ≤ 128) (g : BitVec w → BitVec w → BitVec w) (a b : Vec256)
    {i : Nat} (hi : i < count) : lane w i (form128 (zipLanes w count g) a b) = g (lane w i a) (lane w i b) := by
  have hlow : w * (i + 1) ≤ 128 := (Nat.mul_le_mul_left w hi).trans hfit
  rw [← lane_low128 w i _ hlow, low128_form128, lane_zipLanes w count g _ _ hfit i hi, lane_low128 w i a hlow,
    lane_low128 w i b hlow]

/-- The lanes of the low half come first, those of the high half after them. -/
theorem lane_form256_zipLanes {w count : Nat} (hfit : w * count = 128) (g : BitVec w → BitVec w → BitVec w) (a b : Vec256)
    {i : Nat} (hi : i < 2 * count) : lane w i (form256 (zipLanes w count g) a b) = g (lane w i a) (lane w i b) := by
  have hhalf : ∀ j < count, w * (j + 1) ≤ 128 := fun j hj => (Nat.mul_le_mul_left w hj).trans hfit.le
  rcases lt_or_ge i count with hlow | hhigh
  · rw [← lane_low128 w i _ (hhalf i hlow), low128_form256, lane_zipLanes w count g _ _ hfit.le i hlow,
      lane_low128 w i a (hhalf i hlow), lane_low128 w i b (hhalf i hlow)]
  · obtain ⟨j, rfl⟩ := Nat.exists_eq_add_of_le hhigh
    have hj : j < count := by omega
    rw [← lane_high128 w j count _ hfit (hhalf j hj), high128_form256, lane_zipLanes w count g _ _ hfit.le j hj,
      lane_high128 w j count a hfit (hhalf j hj), lane_high128 w j count b hfit (hhalf j hj)]

/-! ### Saturating operations lane by lane (R102, R111) -/

/-- What the two forms answer of an operation that saturates `f` of the lanes of A and B: `addSat` and `subSat` are such by
definition. -/
theorem saturated_lanes (t : SatType) (f : Int → Int → Int) {i128 i256 : Instr} {s : State} {w count : Nat}
    (hfit : w * count = 128)
    (h128 : Completes i128 s (form128 (zipLanes w count fun x y => saturate t w (f (t.read x) (t.read y))) s.a s.b))
    (h256 : Completes i256 s (form256 (zipLanes w count fun x y => saturate t w (f (t.read x) (t.read y))) s.a s.b)) :
    (∃ r, Completes i128 s r ∧
      (∀ j, j < count →
        lane w j r = BitVec.ofInt w (within t.lo t.hi (f (t.read (lane w j s.a)) (t.read (lane w j s.b))))) ∧
      high128 r = 0) ∧
    ∃ r, Completes i256 s r ∧
      ∀ j, j < 2 * count →
        lane w j r = BitVec.ofInt w (within t.lo t.hi (f (t.read (lane w j s.a)) (t.read (lane w j s.b)))) := by
  refine ⟨⟨_, h128, fun j hj => ?_, high128_form128 _ s.a s.b⟩, _, h256, fun j hj => ?_⟩
  · rw [lane_form128_zipLanes hfit.le _ s.a s.b hj, saturate_eq_ofInt_within]
  · rw [lane_form256_zipLanes hfit _ s.a s.b hj, saturate_eq_ofInt_within]

end Sys2Proof.Machine

namespace Sys2Proof.Proofs

/-- Settles O1: each form saturates the sum of the signed lanes. -/
theorem paddsbAndPaddswSaturateEveryLane : Obligations.PaddsbAndPaddswSaturateEveryLane := by
  refine ⟨twoForms_of_op (o := .paddsb) rfl rfl rfl, twoForms_of_op (o := .paddsw) rfl rfl rfl, fun s => and_assoc.mp ⟨?_, ?_⟩⟩
  · exact saturated_lanes .int8 (· + ·) (w := 8) (count := 16) rfl rfl rfl
  · exact saturated_lanes .int16 (· + ·) (w := 16) (count := 8) rfl rfl rfl

/-- Settles O2: each form saturates the sum of the unsigned lanes. -/
theorem paddusbAndPadduswSaturateEveryLane : Obligations.PaddusbAndPadduswSaturateEveryLane := by
  refine ⟨twoForms_of_op (o := .paddusb) rfl rfl rfl, twoForms_of_op (o := .paddusw) rfl rfl rfl, fun s => and_assoc.mp ⟨?_, ?_⟩⟩
  · exact saturated_lanes .uint8 (· + ·) (w := 8) (count := 16) rfl rfl rfl
  · exact saturated_lanes .uint16 (· + ·) (w := 16) (count := 8) rfl rfl rfl

/-- Settles O3: each form saturates the difference of the signed lanes. -/
theorem psubsbAndPsubswSaturateEveryLane : Obligations.PsubsbAndPsubswSaturateEveryLane := by
  refine ⟨twoForms_of_op (o := .psubsb) rfl rfl rfl, twoForms_of_op (o := .psubsw) rfl rfl rfl, fun s => and_assoc.mp ⟨?_, ?_⟩⟩
  · exact saturated_lanes .int8 (· - ·) (w := 8) (count := 16) rfl rfl rfl
  · exact saturated_lanes .int16 (· - ·) (w := 16) (count := 8) rfl rfl rfl

/-- Settles O4: each form saturates the difference of the unsigned lanes, whose lower bound is 0. -/
theorem psubusbAndPsubuswSaturateEveryLane : Obligations.PsubusbAndPsubuswSaturateEveryLane := by
  refine ⟨twoForms_of_op (o := .psubusb) rfl rfl rfl, twoForms_of_op (o := .psubusw) rfl rfl rfl, fun s => and_assoc.mp ⟨?_, ?_⟩⟩
  · exact saturated_lanes .uint8 (· - ·) (w := 8) (count := 16) rfl rfl rfl
  · exact saturated_lanes .uint16 (· - ·) (w := 16) (count := 8) rfl rfl rfl

/-- Settles O58: the bounds are R100's table, the clamp's laws hold between any bounds in order, and each lane width holds the
bounds of its types. -/
theorem saturationIsTheNearestValueInRange : Obligations.SaturationIsTheNearestValueInRange := by
  refine ⟨⟨rfl, rfl, rfl, rfl, rfl, rfl, rfl, rfl⟩, fun t x => ⟨clamp_of_mem, lo_le_clamp t.lo_le_hi x,
    clamp_le_hi t.lo_le_hi x, clamp_of_lt_lo, clamp_of_hi_lt t.lo_le_hi⟩, fun x => ⟨?_, ?_, ?_, ?_⟩⟩
  · exact toInt_saturate (t := .int8) (w := 8) (by decide) (by decide) (by decide) x
  · exact toNat_saturate (t := .uint8) (w := 8) (by decide) (by decide) x
  · exact toInt_saturate (t := .int16) (w := 16) (by decide) (by decide) (by decide) x
  · exact toNat_saturate (t := .uint16) (w := 16) (by decide) (by decide) x

end Sys2Proof.Proofs
end

section
/-! PROOFS of the statements about pack and unpack (O5 to O10): the lanes of a packed and of an interleaved half, and how the
two forms repeat an operation in each half (R61, R62, R130 to R148). -/

open Sys2Proof Sys2Proof.Machine Sys2Proof.Claims

namespace Sys2Proof.Machine

/-! ### Lanes of a half (R24, R62) -/

/-- When k lanes of width w fill one of width m, the wide lane h holds the narrow lanes from k * h on. -/
theorem lane_lane {n w k m : Nat} (hfill : w * k = m) (h : Nat) {i : Nat} (hi : i < k) (v : BitVec n) :
    lane w i (lane m h v) = lane w (k * h + i) v := by
  apply BitVec.eq_of_getLsbD_eq
  intro j hj
  have hlt : w * i + j < m := by
    calc w * i + j < w * (i + 1) := by rw [Nat.mul_succ]; omega
      _ ≤ m := hfill ▸ Nat.mul_le_mul_left w hi
  have hbit : m * h + (w * i + j) = w * (k * h + i) + j := by
    rw [← hfill, Nat.mul_add, Nat.mul_assoc, Nat.add_assoc]
  simp only [getLsbD_lane, hlt, hbit, decide_true, Bool.true_and]

theorem lane_zero_append {m n : Nat} (x : BitVec m) (y : BitVec n) : lane n 0 (x ++ y) = y :=
  BitVec.extractLsb'_append_eq_right

theorem lane_one_append {n : Nat} (x y : BitVec n) : lane n 1 (x ++ y) = x := by
  rw [lane, Nat.mul_one, BitVec.extractLsb'_append_eq_left]

theorem lane_form128 (op : Vec128 → Vec128 → Vec128) (a b : Vec256) {h : Nat} (hh : h < 1) :
    lane 128 h (form128 op a b) = op (lane 128 h a) (lane 128 h b) := by
  obtain rfl : h = 0 := Nat.lt_one_iff.mp hh
  exact low128_form128 op a b

theorem lane_form256 (op : Vec128 → Vec128 → Vec128) (a b : Vec256) {h : Nat} (hh : h < 2) :
    lane 128 h (form256 op a b) = op (lane 128 h a) (lane 128 h b) := by
  match h with
  | 0 => exact low128_form256 op a b
  | 1 => exact high128_form256 op a b

/-- What holds of every half that is the operation on that half of A and B holds of the one half of the 128-bit form and of
both halves of the 256-bit form. -/
theorem completes_of_halves {op : Vec128 → Vec128 → Vec128} {i128 i256 : Instr} {s : State} {count : Nat}
    {P : Nat → Nat → Vec256 → Prop} (h128 : Completes i128 s (form128 op s.a s.b))
    (h256 : Completes i256 s (form256 op s.a s.b))
    (hhalf : ∀ h r, lane 128 h r = op (lane 128 h s.a) (lane 128 h s.b) → ∀ i < count, P h i r) :
    (∃ r, Completes i128 s r ∧ (∀ h i, h < 1 → i < count → P h i r) ∧ high128 r = 0) ∧
    ∃ r, Completes i256 s r ∧ ∀ h i, h < 2 → i < count → P h i r :=
  ⟨⟨_, h128, fun h i hh hi => hhalf h _ (lane_form128 op s.a s.b hh) i hi, high128_form128 op s.a s.b⟩,
    _, h256, fun h i hh hi => hhalf h _ (lane_form256 op s.a s.b hh) i hi⟩

/-! ### Saturating pack (R130) -/

theorem lane_narrowLanes (t : SatType) {w count : Nat} (hfit : w / 2 * count ≤ 64) (v : Vec128) {i : Nat} (hi : i < count) :
    lane (w / 2) i (narrowLanes t w count v) = saturate t (w / 2) (lane w i v).toInt :=
  lane_ofLanes_of_lt 64 (w / 2) count _ hfit i hi

/-- The low 64 bits of a packed half are A's narrowed lanes. -/
theorem lane_pack128_low (t : SatType) {w count : Nat} (hfill : w / 2 * count = 64) (a b : Vec128) {i : Nat} (hi : i < count) :
    lane (w / 2) i (pack128 t w count a b) = saturate t (w / 2) (lane w i a).toInt := by
  have hlow := lane_lane hfill 0 hi (pack128 t w count a b)
  rw [Nat.mul_zero, Nat.zero_add] at hlow
  rw [← hlow, pack128, lane_zero_append, lane_narrowLanes t hfill.le a hi]

/-- The high 64 bits of a packed half are B's narrowed lanes. -/
theorem lane_pack128_high (t : SatType) {w count : Nat} (hfill : w / 2 * count = 64) (a b : Vec128) {i : Nat} (hi : i < count) :
    lane (w / 2) (count + i) (pack128 t w count a b) = saturate t (w / 2) (lane w i b).toInt := by
  have hhigh := lane_lane hfill 1 hi (pack128 t w count a b)
  rw [Nat.mul_one] at hhigh
  rw [← hhigh, pack128, lane_one_append, lane_narrowLanes t hfill.le b hi]

/-- A packed half of R in the lanes of the ports: `count` source lanes of width w from that half of A and B. -/
theorem lanes_of_packed_half (t : SatType) {w count : Nat} (hsource : w * count = 128) (hresult : w / 2 * count = 64)
    {a b : Vec256} (h : Nat) (r : Vec256) (hr : lane 128 h r = pack128 t w count (lane 128 h a) (lane 128 h b)) (i : Nat)
    (hi : i < count) :
    lane (w / 2) (2 * count * h + i) r = BitVec.ofInt (w / 2) (within t.lo t.hi (lane w (count * h + i) a).toInt) ∧
    lane (w / 2) (2 * count * h + count + i) r = BitVec.ofInt (w / 2) (within t.lo t.hi (lane w (count * h + i) b).toInt) := by
  have hfill : w / 2 * (2 * count) = 128 := by rw [Nat.mul_left_comm, hresult]
  constructor
  · rw [← lane_lane hfill h (by omega) r, hr, lane_pack128_low t hresult _ _ hi, lane_lane hsource h hi,
      saturate_eq_ofInt_within]
  · rw [Nat.add_assoc, ← lane_lane hfill h (by omega) r, hr, lane_pack128_high t hresult _ _ hi, lane_lane hsource h hi,
      saturate_eq_ofInt_within]

/-! ### Unpack (R140) -/

theorem lane_interleave128_even {w count : Nat} (hfit : w * (2 * count) ≤ 128) (first : Nat) (a b : Vec128) {i : Nat}
    (hi : i < count) : lane w (2 * i) (interleave128 w count first a b) = lane w (first + i) a := by
  rw [interleave128, lane_ofLanes_of_lt 128 w (2 * count) _ hfit (2 * i) (by omega), if_pos (Nat.mul_mod_right 2 i),
    Nat.mul_div_cancel_left i two_pos]

theorem lane_interleave128_odd {w count : Nat} (hfit : w * (2 * count) ≤ 128) (first : Nat) (a b : Vec128) {i : Nat}
    (hi : i < count) : lane w (2 * i + 1) (interleave128 w count first a b) = lane w (first + i) b := by
  have hodd : ¬ (2 * i + 1) % 2 = 0 := by omega
  have hhalf : (2 * i + 1) / 2 = i := by omega
  rw [interleave128, lane_ofLanes_of_lt 128 w (2 * count) _ hfit (2 * i + 1) (by omega), if_neg hodd, hhalf]

/-- An interleaved half of R in the lanes of the ports: `count` lanes of width w, from lane `first` of that half of A and B on. -/
theorem lanes_of_interleaved_half {w count first : Nat} (hfill : w * (2 * count) = 128) (hfirst : first ≤ count)
    {a b : Vec256} (h : Nat) (r : Vec256)
    (hr : lane 128 h r = interleave128 w count first (lane 128 h a) (lane 128 h b)) (i : Nat) (hi : i < count) :
    lane w (2 * count * h + 2 * i) r = lane w (2 * count * h + first + i) a ∧
    lane w (2 * count * h + 2 * i + 1) r = lane w (2 * count * h + first + i) b := by
  have hsource (v : Vec256) : lane w (first + i) (lane 128 h v) = lane w (2 * count * h + first + i) v := by
    rw [lane_lane hfill h (by omega), Nat.add_assoc]
  constructor
  · rw [← lane_lane hfill h (by omega) r, hr, lane_interleave128_even hfill.le first _ _ hi, hsource]
  · rw [Nat.add_assoc _ (2 * i) 1, ← lane_lane hfill h (by omega) r, hr, lane_interleave128_odd hfill.le first _ _ hi, hsource]

end Sys2Proof.Machine

namespace Sys2Proof.Proofs

/-- Settles O5: the packs of signed words, to int8 and to uint8. -/
theorem packsswbAndPackuswbNarrowEachHalf : Obligations.PacksswbAndPackuswbNarrowEachHalf := by
  refine ⟨twoForms_of_op (o := .packsswb) rfl rfl rfl, twoForms_of_op (o := .packuswb) rfl rfl rfl, fun s => and_assoc.mp ⟨?_, ?_⟩⟩
  · exact completes_of_halves rfl rfl (lanes_of_packed_half .int8 (w := 16) (count := 8) rfl rfl)
  · exact completes_of_halves rfl rfl (lanes_of_packed_half .uint8 (w := 16) (count := 8) rfl rfl)

/-- Settles O6: the packs of signed doublewords, to int16 and to uint16. -/
theorem packssdwAndPackusdwNarrowEachHalf : Obligations.PackssdwAndPackusdwNarrowEachHalf := by
  refine ⟨twoForms_of_op (o := .packssdw) rfl rfl rfl, twoForms_of_op (o := .packusdw) rfl rfl rfl, fun s => and_assoc.mp ⟨?_, ?_⟩⟩
  · exact completes_of_halves rfl rfl (lanes_of_packed_half .int16 (w := 32) (count := 4) rfl rfl)
  · exact completes_of_halves rfl rfl (lanes_of_packed_half .uint16 (w := 32) (count := 4) rfl rfl)

/-- Settles O7: eight bytes of each half, from byte 0 and from byte 8 on. -/
theorem punpckBwInterleavesLowAndHigh : Obligations.PunpckBwInterleavesLowAndHigh := by
  refine ⟨twoForms_of_op (o := .punpcklbw) rfl rfl rfl, twoForms_of_op (o := .punpckhbw) rfl rfl rfl, fun s => and_assoc.mp ⟨?_, ?_⟩⟩
  · exact completes_of_halves rfl rfl (lanes_of_interleaved_half (w := 8) (count := 8) (first := 0) rfl (by decide))
  · exact completes_of_halves rfl rfl (lanes_of_interleaved_half (w := 8) (count := 8) (first := 8) rfl (by decide))

/-- Settles O8: four words of each half, from word 0 and from word 4 on. -/
theorem punpckWdInterleavesLowAndHigh : Obligations.PunpckWdInterleavesLowAndHigh := by
  refine ⟨twoForms_of_op (o := .punpcklwd) rfl rfl rfl, twoForms_of_op (o := .punpckhwd) rfl rfl rfl, fun s => and_assoc.mp ⟨?_, ?_⟩⟩
  · exact completes_of_halves rfl rfl (lanes_of_interleaved_half (w := 16) (count := 4) (first := 0) rfl (by decide))
  · exact completes_of_halves rfl rfl (lanes_of_interleaved_half (w := 16) (count := 4) (first := 4) rfl (by decide))

/-- Settles O9: two doublewords of each half, from doubleword 0 and from doubleword 2 on. -/
theorem punpckDqInterleavesLowAndHigh : Obligations.PunpckDqInterleavesLowAndHigh := by
  refine ⟨twoForms_of_op (o := .punpckldq) rfl rfl rfl, twoForms_of_op (o := .punpckhdq) rfl rfl rfl, fun s => and_assoc.mp ⟨?_, ?_⟩⟩
  · exact completes_of_halves rfl rfl (lanes_of_interleaved_half (w := 32) (count := 2) (first := 0) rfl (by decide))
  · exact completes_of_halves rfl rfl (lanes_of_interleaved_half (w := 32) (count := 2) (first := 2) rfl (by decide))

/-- Settles O10: one quadword of each half, quadword 0 and quadword 1. -/
theorem punpckQdqInterleavesLowAndHigh : Obligations.PunpckQdqInterleavesLowAndHigh := by
  refine ⟨twoForms_of_op (o := .punpcklqdq) rfl rfl rfl, twoForms_of_op (o := .punpckhqdq) rfl rfl rfl, fun s => and_assoc.mp ⟨?_, ?_⟩⟩
  · exact completes_of_halves rfl rfl (lanes_of_interleaved_half (w := 64) (count := 1) (first := 0) rfl (by decide))
  · exact completes_of_halves rfl rfl (lanes_of_interleaved_half (w := 64) (count := 1) (first := 1) rfl (by decide))

end Sys2Proof.Proofs
end

section
/-! PROOFS of the statements about the compare engine (O11 to O17): the words of an operation with an immediate, the rows of
R174 by relation, the lanes of the packed and the scalar compares, and the order of the exact values (R63, R64, R170 to R182). -/

open Sys2Proof Sys2Proof.Machine Sys2Proof.Claims

namespace Sys2Proof

/-! ### The words of an operation with an immediate (R63, R64) -/

/-- Bits 31:16 are RSV above W (R60). -/
theorem extractLsb'_sixteen_eq_append (w : CommandWord) :
    w.extractLsb' 16 16 = rsvField w ++ BitVec.ofBool (widthField w) := by
  apply BitVec.eq_of_getLsbD_eq
  intro j hj
  rw [BitVec.getLsbD_append, BitVec.getLsbD_extractLsb']
  by_cases hzero : j < 1
  · obtain rfl : j = 0 := by omega
    simp [widthField]
  · have hrsv : j - 1 < 15 := by omega
    have hplace : 17 + (j - 1) = 16 + j := by omega
    simp [rsvField, hzero, hj, hrsv, hplace]

/-- Bits 31:16 hold a W bit and nothing else exactly when RSV is zero and W is that bit. -/
theorem extractLsb'_sixteen_eq_iff (w : CommandWord) (wide : Bool) :
    w.extractLsb' 16 16 = (0 : BitVec 15) ++ BitVec.ofBool wide ↔ rsvField w = 0 ∧ widthField w = wide := by
  rw [extractLsb'_sixteen_eq_append]
  constructor
  · intro h
    have hrsv := congrArg (BitVec.extractLsb' 1 15) h
    have hwidth := congrArg (BitVec.getLsbD · 0) h
    rw [BitVec.extractLsb'_append_eq_left, BitVec.extractLsb'_append_eq_left] at hrsv
    simp only [BitVec.getLsbD_append, BitVec.getLsbD_ofBool] at hwidth
    exact ⟨hrsv, by simpa using hwidth⟩
  · rintro ⟨hrsv, hwidth⟩
    rw [hrsv, hwidth]

/-- The words of an operation with an immediate, whatever the immediate is. -/
theorem decode_eq_ok_iff_of_immediate {o : Op} {i : Instr} {w : CommandWord} (himm : o.immUse ≠ .mustBeZero)
    (hop : opField w = o.code) :
    decode w = .ok i ↔ rsvField w = 0 ∧ o.instr (widthField w) (immField w) = some i := by
  rw [decode_eq_ok_iff_fields]
  constructor
  · rintro ⟨hrsv, hcode, hwidth, himmField⟩
    obtain rfl : i.op = o := by
      rw [← Option.some_inj, ← Op.ofCode_code, ← hcode, hop, Op.ofCode_code]
    rw [hwidth, himmField]
    exact ⟨hrsv, i.instr_op⟩
  · rintro ⟨hrsv, hinstr⟩
    obtain ⟨hopOf, hwidth, himmOf⟩ := Op.fields_of_instr hinstr
    rw [if_neg himm] at himmOf
    exact ⟨hrsv, by rw [hop, hopOf], hwidth.symm, himmOf.symm⟩

/-- A word that is none of the operation's forms is reserved. -/
theorem exists_decode_error_of_immediate {o : Op} {w : CommandWord} (himm : o.immUse ≠ .mustBeZero)
    (hop : opField w = o.code)
    (hnone : ∀ i, o.instr (widthField w) (immField w) = some i → rsvField w ≠ 0) : ∃ e, decode w = .error e := by
  cases hdecode : decode w with
  | error e => exact ⟨e, rfl⟩
  | ok i =>
    obtain ⟨hrsv, hinstr⟩ := (decode_eq_ok_iff_of_immediate himm hop).mp hdecode
    exact absurd hrsv (hnone i hinstr)

/-- An operation with an immediate and both forms has a word for each form and each immediate, and no other (R63, R64). -/
theorem twoFormsImm_of_op {o : Op} {i128 i256 : Imm8 → Instr} (himm : o.immUse ≠ .mustBeZero)
    (hnarrow : ∀ imm, o.instr false imm = some (i128 imm)) (hwide : ∀ imm, o.instr true imm = some (i256 imm)) :
    TwoFormsImm o.code i128 i256 := by
  intro w hop
  have hnarrowIff := extractLsb'_sixteen_eq_iff w false
  have hwideIff := extractLsb'_sixteen_eq_iff w true
  split
  next h =>
    obtain ⟨hrsv, hwidth⟩ := hnarrowIff.mp h
    exact (decode_eq_ok_iff_of_immediate himm hop).mpr ⟨hrsv, hwidth ▸ hnarrow _⟩
  next hnotNarrow =>
    split
    next h =>
      obtain ⟨hrsv, hwidth⟩ := hwideIff.mp h
      exact (decode_eq_ok_iff_of_immediate himm hop).mpr ⟨hrsv, hwidth ▸ hwide _⟩
    next hnotWide =>
      refine exists_decode_error_of_immediate himm hop fun _ _ hrsv => ?_
      cases hwidth : widthField w with
      | false => exact hnotNarrow (hnarrowIff.mpr ⟨hrsv, hwidth⟩)
      | true => exact hnotWide (hwideIff.mpr ⟨hrsv, hwidth⟩)

/-- An operation with an immediate and no 256-bit form has a word for each immediate, and no other (R63, R64). -/
theorem oneFormImm_of_op {o : Op} {i : Imm8 → Instr} (himm : o.immUse ≠ .mustBeZero)
    (hnarrow : ∀ imm, o.instr false imm = some (i imm)) (hwide : ∀ imm, o.instr true imm = none) :
    OneFormImm o.code i := by
  intro w hop
  have hnarrowIff := extractLsb'_sixteen_eq_iff w false
  split
  next h =>
    obtain ⟨hrsv, hwidth⟩ := hnarrowIff.mp h
    exact (decode_eq_ok_iff_of_immediate himm hop).mpr ⟨hrsv, hwidth ▸ hnarrow _⟩
  next hnotNarrow =>
    refine exists_decode_error_of_immediate himm hop fun j hinstr hrsv => ?_
    cases hwidth : widthField w with
    | false => exact hnotNarrow (hnarrowIff.mpr ⟨hrsv, hwidth⟩)
    | true =>
      rw [hwidth, hwide] at hinstr
      cases hinstr

end Sys2Proof

namespace Sys2Proof.Machine

/-! ### The rows of R174 by relation -/

/-- The row of a code holds the truth sets of R174. -/
theorem onRelation_eq_truth {p : Imm8} {row : PredicateRow} (h : predicateOf p = some row) (x : Relation) :
    row.onRelation x = truth p x := by
  have hrows : ∀ p : Imm8, ∀ row ∈ predicateOf p,
      row.onLT = truth p .lt ∧ row.onEQ = truth p .eq ∧ row.onGT = truth p .gt ∧ row.onUN = truth p .un := by decide
  obtain ⟨hlt, heq, hgt, hun⟩ := hrows p row h
  cases x with
  | lt => exact hlt
  | eq => exact heq
  | gt => exact hgt
  | un => exact hun

/-- Codes up to 0x1F have a row (R177). -/
theorem exists_predicateOf {p : Imm8} (hp : p.toNat ≤ 0x1F) : ∃ row, predicateOf p = some row :=
  Option.ne_none_iff_exists'.mp fun h => absurd ((predicateOf_eq_none_iff p).mp h) (by omega)

theorem comparing_of_out_of_range {p : Imm8} (hp : ¬ p.toNat ≤ 0x1F) (s : State) (result : PredicateRow → Vec256) :
    comparing p s result = .next (s.raise .invalidArgument) := by
  simp only [comparing, (predicateOf_eq_none_iff p).mpr (by omega)]

/-- The mask of a lane in the words of the statements (R178). -/
theorem compareLane_eq_ite_truth (fmt : FloatFormat) {p : Imm8} {row : PredicateRow} (h : predicateOf p = some row)
    {w : Nat} (a b : BitVec w) :
    compareLane fmt row a b = if truth p (rel fmt a b) then BitVec.allOnes w else 0 := by
  rw [compareLane, maskLane, onRelation_eq_truth h]

/-- S and Q share their truth sets, which depend on p[3:0] alone (R175). -/
theorem truth_signalling (p : Imm8) : truth (p + 0x10) = truth p := by
  have hlow : (p + 0x10).toNat % 16 = p.toNat % 16 := by
    rw [BitVec.toNat_add]
    simp only [BitVec.ofNat_eq_ofNat, BitVec.toNat_ofNat]
    omega
  funext x
  cases x <;> simp only [truth, hlow]

/-- A compare whose result sees of its row only the lane masks is the same under p and p + 0x10 (R175). -/
theorem comparing_signalling {p : Imm8} (hp : p.toNat < 0x10) (s : State) {result : PredicateRow → Vec256}
    (hmasks : ∀ row row' : PredicateRow, row.onRelation = row'.onRelation → result row = result row') :
    comparing p s result = comparing (p + 0x10) s result := by
  have hmarked : (p + 0x10).toNat ≤ 0x1F := by
    rw [BitVec.toNat_add]
    simp only [BitVec.ofNat_eq_ofNat, BitVec.toNat_ofNat]
    omega
  obtain ⟨row, hrow⟩ := exists_predicateOf (p := p) (by omega)
  obtain ⟨row', hrow'⟩ := exists_predicateOf hmarked
  have hsame : row.onRelation = row'.onRelation := by
    funext x
    rw [onRelation_eq_truth hrow, onRelation_eq_truth hrow', truth_signalling]
  rw [comparing_of_row hrow, comparing_of_row hrow', hmasks row row' hsame]

theorem compareLane_congr {row row' : PredicateRow} (h : row.onRelation = row'.onRelation) (fmt : FloatFormat) (w : Nat) :
    compareLane fmt row (w := w) = compareLane fmt row' := by
  funext a b
  rw [compareLane, compareLane, h]

/-! ### The compositions (R172, R173, R176) -/

/-- The composition column is the table, the greater-than family being the less-than one of the exchanged relation. -/
theorem composed_eq_onRelation (fmt : FloatFormat) {n : Nat} (a b : BitVec n) :
    ∀ row ∈ predicateTable, composed fmt row.name a b = row.onRelation (rel fmt a b) := by
  simp only [composed, primEQ, primLT, primLE, primUNORD, primNEQ, primNLT, primNLE, primORD, rel_swap fmt a b]
  generalize rel fmt a b = x
  cases x <;> decide

/-! ### Packed compares lane by lane (R179, R180) -/

/-- What the two forms of a packed compare answer, in range and out of it. -/
theorem compared_lanes (fmt : FloatFormat) {w count : Nat} (hfill : w * count = 128) {i128 i256 : Instr} {s : State}
    {p : Imm8}
    (h128 : exec i128 s = comparing p s fun row => form128 (zipLanes w count (compareLane fmt row)) s.a s.b)
    (h256 : exec i256 s = comparing p s fun row => form256 (zipLanes w count (compareLane fmt row)) s.a s.b) :
    if p.toNat ≤ 0x1F then
      (∃ r, Completes i128 s r ∧
        (∀ j, j < count →
          lane w j r = if truth p (rel fmt (lane w j s.a) (lane w j s.b)) then BitVec.allOnes w else 0) ∧
        high128 r = 0) ∧
      (∃ r, Completes i256 s r ∧
        ∀ j, j < 2 * count →
          lane w j r = if truth p (rel fmt (lane w j s.a) (lane w j s.b)) then BitVec.allOnes w else 0)
    else Raises i128 s 1 ∧ Raises i256 s 1 := by
  split
  next hp =>
    obtain ⟨row, hrow⟩ := exists_predicateOf hp
    refine ⟨⟨_, h128.trans (comparing_of_row hrow s _), fun j hj => ?_, high128_form128 _ s.a s.b⟩,
      _, h256.trans (comparing_of_row hrow s _), fun j hj => ?_⟩
    · rw [lane_form128_zipLanes hfill.le _ s.a s.b hj, compareLane_eq_ite_truth fmt hrow]
    · rw [lane_form256_zipLanes hfill _ s.a s.b hj, compareLane_eq_ite_truth fmt hrow]
  next hp =>
    exact ⟨h128.trans (comparing_of_out_of_range hp s _), h256.trans (comparing_of_out_of_range hp s _)⟩

/-! ### Scalar compares (R181, R182) -/

theorem getLsbD_spliceLow {w : Nat} (m : BitVec w) (a : Vec128) {j : Nat} (hj : j < 128) :
    (spliceLow w m a).getLsbD j = if j < w then m.getLsbD j else a.getLsbD j := by
  rw [spliceLow, BitVec.getLsbD_or, BitVec.getLsbD_shiftLeft, BitVec.getLsbD_ushiftRight, BitVec.getLsbD_setWidth]
  by_cases hlow : j < w
  · simp [hj, hlow]
  · have hplace : w + (j - w) = j := by omega
    simp [hj, hlow, hplace, BitVec.getLsbD_of_ge m j (Nat.le_of_not_lt hlow)]

theorem lane_zero_spliceLow {w : Nat} (hw : w ≤ 128) (m : BitVec w) (a : Vec128) : lane w 0 (spliceLow w m a) = m := by
  apply BitVec.eq_of_getLsbD_eq
  intro j hj
  rw [getLsbD_lane, Nat.mul_zero, Nat.zero_add, getLsbD_spliceLow m a (by omega), if_pos hj]
  simp [hj]

/-- Above lane 0 the splice is A's low half. -/
theorem extractLsb'_spliceLow {w k : Nat} (hfill : w + k = 128) (m : BitVec w) (a : Vec128) :
    (spliceLow w m a).extractLsb' w k = a.extractLsb' w k := by
  apply BitVec.eq_of_getLsbD_eq
  intro j hj
  rw [BitVec.getLsbD_extractLsb', BitVec.getLsbD_extractLsb', getLsbD_spliceLow m a (by omega), if_neg (by omega)]

theorem extractLsb'_low128 {w k : Nat} (hfit : w + k ≤ 128) (v : Vec256) :
    (low128 v).extractLsb' w k = v.extractLsb' w k := by
  apply BitVec.eq_of_getLsbD_eq
  intro j hj
  have hlt : w + j < 128 := by omega
  simp [low128, hj, hlt]

/-- What a scalar compare answers, in range and out of it: k bits of A pass through above the mask. -/
theorem compared_low_lane (fmt : FloatFormat) {w k : Nat} (hfill : w + k = 128) {i : Instr} {s : State} {p : Imm8}
    (h : exec i s = comparing p s fun row =>
      form128 (fun a b => spliceLow w (compareLane fmt row (lane w 0 a) (lane w 0 b)) a) s.a s.b) :
    if p.toNat ≤ 0x1F then
      ∃ r, Completes i s r ∧
        (lane w 0 r = if truth p (rel fmt (lane w 0 s.a) (lane w 0 s.b)) then BitVec.allOnes w else 0) ∧
        r.extractLsb' w k = s.a.extractLsb' w k ∧
        high128 r = 0
    else Raises i s 1 := by
  have hfit : w * (0 + 1) ≤ 128 := by omega
  split
  next hp =>
    obtain ⟨row, hrow⟩ := exists_predicateOf hp
    refine ⟨_, h.trans (comparing_of_row hrow s _), ?_, ?_, high128_form128 _ s.a s.b⟩
    · rw [← lane_low128 w 0 _ hfit, low128_form128, lane_zero_spliceLow (by omega), lane_low128 w 0 _ hfit,
        lane_low128 w 0 _ hfit, compareLane_eq_ite_truth fmt hrow]
    · rw [← extractLsb'_low128 hfill.le, low128_form128, extractLsb'_spliceLow hfill, extractLsb'_low128 hfill.le]
  next hp => exact h.trans (comparing_of_out_of_range hp s _)

/-! ### The relation and the scaled values (R171) -/

theorem rel_eq_lt_iff {fmt : FloatFormat} {n : Nat} {a b : BitVec n} (ha : ¬ isNaN fmt a) (hb : ¬ isNaN fmt b) :
    rel fmt a b = .lt ↔ scaledVal fmt a < scaledVal fmt b := by
  rw [rel, if_neg (by simp [ha, hb])]
  split
  next h => simp [h]
  next h => split <;> simp [h]

theorem rel_eq_eq_iff {fmt : FloatFormat} {n : Nat} {a b : BitVec n} (ha : ¬ isNaN fmt a) (hb : ¬ isNaN fmt b) :
    rel fmt a b = .eq ↔ scaledVal fmt a = scaledVal fmt b := by
  rw [rel, if_neg (by simp [ha, hb])]
  split
  next h => simp [h.ne]
  next => split <;> simp [*]

theorem rel_eq_gt_iff {fmt : FloatFormat} {n : Nat} {a b : BitVec n} (ha : ¬ isNaN fmt a) (hb : ¬ isNaN fmt b) :
    rel fmt a b = .gt ↔ scaledVal fmt b < scaledVal fmt a := by
  rw [← rel_eq_lt_iff hb ha, rel_swap fmt a b]
  cases rel fmt a b <;> decide

/-! ### The scaled values and the exact values (R12, log 16) -/

/-- The magnitude of a scaled infinity. -/
def scaledInf (fmt : FloatFormat) : Nat := 2 ^ fmt.fracBits * 2 ^ (expOnes fmt - 1)

/-- The extended rational that a scaled value stands for: the unit is the least denormal. -/
def unscale (fmt : FloatFormat) (z : Int) : WithBot (WithTop ℚ) :=
  if z = scaledInf fmt then ((⊤ : WithTop ℚ) : WithBot (WithTop ℚ))
  else if z = -scaledInf fmt then ⊥
  else (((z * (2 : ℚ) ^ ((1 : ℤ) - fmt.bias - fmt.fracBits) : ℚ) : WithTop ℚ) : WithBot (WithTop ℚ))

theorem unscale_strictMonoOn (fmt : FloatFormat) :
    StrictMonoOn (unscale fmt) (Set.Icc (-(scaledInf fmt : Int)) (scaledInf fmt)) := by
  intro x hx y hy hxy
  obtain ⟨hx₁, hx₂⟩ := Set.mem_Icc.mp hx
  obtain ⟨hy₁, hy₂⟩ := Set.mem_Icc.mp hy
  have hxtop : x ≠ scaledInf fmt := by omega
  have hybot : y ≠ -scaledInf fmt := by omega
  have hunit : (0 : ℚ) < (2 : ℚ) ^ ((1 : ℤ) - fmt.bias - fmt.fracBits) := by positivity
  have hcast : (x : ℚ) < y := by exact_mod_cast hxy
  rw [unscale, unscale, if_neg hxtop, if_neg hybot]
  by_cases hxbot : x = -scaledInf fmt
  · rw [if_pos hxbot]
    split <;> exact WithBot.bot_lt_coe _
  · rw [if_neg hxbot]
    split
    · exact WithBot.coe_lt_coe.mpr (WithTop.coe_lt_top _)
    · exact WithBot.coe_lt_coe.mpr (WithTop.coe_lt_coe.mpr (mul_lt_mul_of_pos_right hcast hunit))

/-- The magnitude of a scaled value, as R12 has it in units of the least denormal. -/
def scaledMagnitude (fmt : FloatFormat) {n : Nat} (f : BitVec n) : Nat :=
  if expOf fmt f = 0 then fracOf fmt f else (2 ^ fmt.fracBits + fracOf fmt f) * 2 ^ (expOf fmt f - 1)

theorem scaledVal_eq_magnitude (fmt : FloatFormat) {n : Nat} (f : BitVec n) :
    scaledVal fmt f = if signOf fmt f then -(scaledMagnitude fmt f : Int) else scaledMagnitude fmt f := rfl

theorem scaledMagnitude_of_isInf {fmt : FloatFormat} (hwide : 2 ≤ fmt.expBits) {n : Nat} {f : BitVec n}
    (h : isInf fmt f) : scaledMagnitude fmt f = scaledInf fmt := by
  have hfour : 2 ^ 2 ≤ 2 ^ fmt.expBits := Nat.pow_le_pow_right two_pos hwide
  have hones : expOnes fmt ≠ 0 := by unfold expOnes; omega
  simp only [isInf, Bool.and_eq_true, beq_iff_eq] at h
  obtain ⟨hexp, hfrac⟩ := h
  rw [scaledMagnitude, scaledInf, hexp, hfrac, if_neg hones, Nat.add_zero]

/-- Every finite magnitude lies below the infinity's: the next power of two bounds it. -/
theorem scaledMagnitude_lt_of_isFinite {fmt : FloatFormat} {n : Nat} {f : BitVec n} (h : isFinite fmt f) :
    scaledMagnitude fmt f < scaledInf fmt := by
  have hfrac := fracOf_lt fmt f
  have hexpOnes : expOf fmt f ≠ expOnes fmt := by simpa [isFinite] using h
  have hexpLt := expOf_lt fmt f
  have hexp : expOf fmt f < expOnes fmt := by unfold expOnes at hexpOnes ⊢; omega
  rw [scaledMagnitude, scaledInf]
  split
  next => exact hfrac.trans_le (Nat.le_mul_of_pos_right _ (by positivity))
  next hzero =>
    calc (2 ^ fmt.fracBits + fracOf fmt f) * 2 ^ (expOf fmt f - 1)
        < (2 ^ fmt.fracBits + 2 ^ fmt.fracBits) * 2 ^ (expOf fmt f - 1) :=
          Nat.mul_lt_mul_of_pos_right (by omega) (by positivity)
      _ = 2 ^ fmt.fracBits * 2 ^ (expOf fmt f - 1 + 1) := by ring
      _ ≤ 2 ^ fmt.fracBits * 2 ^ (expOnes fmt - 1) :=
          Nat.mul_le_mul_left _ (Nat.pow_le_pow_right two_pos (by omega))

/-- R12's value is the scaled value times the least denormal. -/
theorem floatVal_eq_scaledVal_mul (fmt : FloatFormat) {n : Nat} (f : BitVec n) :
    floatVal fmt f = scaledVal fmt f * (2 : ℚ) ^ ((1 : ℤ) - fmt.bias - fmt.fracBits) := by
  have hmagnitude : floatVal fmt f = (if signOf fmt f then -1 else 1) *
      ((scaledMagnitude fmt f : ℚ) * (2 : ℚ) ^ ((1 : ℤ) - fmt.bias - fmt.fracBits)) := by
    by_cases hzero : expOf fmt f = 0
    · simp only [floatVal, scaledMagnitude, hzero, ne_eq, not_true_eq_false, if_false, if_true, mul_assoc]
    · have hsplit : ((expOf fmt f : ℤ) - fmt.bias - fmt.fracBits) =
          ((expOf fmt f - 1 : ℕ) : ℤ) + ((1 : ℤ) - fmt.bias - fmt.fracBits) := by omega
      simp only [floatVal, scaledMagnitude, hzero, ne_eq, not_false_eq_true, if_true, if_false, hsplit,
        zpow_add₀ (two_ne_zero (α := ℚ)), zpow_natCast]
      push_cast
      ring
  rw [hmagnitude, scaledVal_eq_magnitude]
  cases signOf fmt f <;> simp

/-- A lane that is not a NaN is an infinity or finite (R170). -/
theorem isInf_or_isFinite_of_not_isNaN {fmt : FloatFormat} {n : Nat} {f : BitVec n} (h : ¬ isNaN fmt f) :
    isInf fmt f ∨ isFinite fmt f := by
  by_cases hexp : expOf fmt f = expOnes fmt
  · exact .inl (by simpa [isInf, isNaN, hexp] using h)
  · exact .inr (by simpa [isFinite] using hexp)

theorem scaledVal_mem_Icc {fmt : FloatFormat} (hwide : 2 ≤ fmt.expBits) {n : Nat} {f : BitVec n}
    (h : ¬ isNaN fmt f) : scaledVal fmt f ∈ Set.Icc (-(scaledInf fmt : Int)) (scaledInf fmt) := by
  have hle : scaledMagnitude fmt f ≤ scaledInf fmt := by
    obtain hinf | hfinite := isInf_or_isFinite_of_not_isNaN h
    · exact (scaledMagnitude_of_isInf hwide hinf).le
    · exact (scaledMagnitude_lt_of_isFinite hfinite).le
  rw [scaledVal_eq_magnitude, Set.mem_Icc]
  split <;> omega

/-- The scaled value of a lane that is not a NaN stands for its extended value. -/
theorem extendedVal_eq_unscale {fmt : FloatFormat} (hwide : 2 ≤ fmt.expBits) {n : Nat} {f : BitVec n}
    (h : ¬ isNaN fmt f) : extendedVal fmt f = unscale fmt (scaledVal fmt f) := by
  obtain hinf | hfinite := isInf_or_isFinite_of_not_isNaN h
  · have hpos : 0 < scaledInf fmt := by unfold scaledInf; positivity
    have hends : ¬ -(scaledInf fmt : Int) = scaledInf fmt := by omega
    rw [extendedVal, if_pos hinf, scaledVal_eq_magnitude, scaledMagnitude_of_isInf hwide hinf]
    cases signOf fmt f <;> simp [unscale, hends]
  · have hlt := scaledMagnitude_lt_of_isFinite hfinite
    have hnotInf : ¬ isInf fmt f := by
      have hexp : expOf fmt f ≠ expOnes fmt := by simpa [isFinite] using hfinite
      simp [isInf, hexp]
    have hinside : scaledVal fmt f ≠ scaledInf fmt ∧ scaledVal fmt f ≠ -scaledInf fmt := by
      rw [scaledVal_eq_magnitude]
      split <;> omega
    obtain ⟨htop, hbot⟩ := hinside
    rw [extendedVal, if_neg hnotInf, unscale, if_neg htop, if_neg hbot, floatVal_eq_scaledVal_mul]

/-- R171 for every format with at least two exponent bits, so that the infinities are not the zeros. -/
theorem rel_follows_extendedVal {fmt : FloatFormat} (hwide : 2 ≤ fmt.expBits) {n : Nat} {a b : BitVec n}
    (ha : ¬ isNaN fmt a) (hb : ¬ isNaN fmt b) :
    (rel fmt a b = .lt ↔ extendedVal fmt a < extendedVal fmt b) ∧
    (rel fmt a b = .eq ↔ extendedVal fmt a = extendedVal fmt b) ∧
    (rel fmt a b = .gt ↔ extendedVal fmt b < extendedVal fmt a) := by
  have hmono := unscale_strictMonoOn fmt
  have hmemA := scaledVal_mem_Icc hwide ha
  have hmemB := scaledVal_mem_Icc hwide hb
  rw [extendedVal_eq_unscale hwide ha, extendedVal_eq_unscale hwide hb, hmono.lt_iff_lt hmemA hmemB,
    hmono.eq_iff_eq hmemA hmemB, hmono.lt_iff_lt hmemB hmemA]
  exact ⟨rel_eq_lt_iff ha hb, rel_eq_eq_iff ha hb, rel_eq_gt_iff ha hb⟩

theorem isNaN_binary32_iff (f : BitVec 32) : isNaN binary32 f ↔ NaN32 f := by
  simp only [isNaN, NaN32, expOf, fracOf, expOnes, binary32, Bool.and_eq_true, beq_iff_eq, bne_iff_ne, ne_eq,
    ← BitVec.toNat_inj]
  rfl

theorem isNaN_binary64_iff (f : BitVec 64) : isNaN binary64 f ↔ NaN64 f := by
  simp only [isNaN, NaN64, expOf, fracOf, expOnes, binary64, Bool.and_eq_true, beq_iff_eq, bne_iff_ne, ne_eq,
    ← BitVec.toNat_inj]
  rfl

end Sys2Proof.Machine

namespace Sys2Proof.Proofs

/-- Settles O11: both forms mask four float32 lanes of each half. -/
theorem cmppsMasksEveryLane : Obligations.CmppsMasksEveryLane :=
  ⟨twoFormsImm_of_op (o := .cmpps) (by decide) (fun _ => rfl) (fun _ => rfl),
    fun _ _ => compared_lanes binary32 (w := 32) (count := 4) rfl rfl rfl⟩

/-- Settles O12: both forms mask two float64 lanes of each half. -/
theorem cmppdMasksEveryLane : Obligations.CmppdMasksEveryLane :=
  ⟨twoFormsImm_of_op (o := .cmppd) (by decide) (fun _ => rfl) (fun _ => rfl),
    fun _ _ => compared_lanes binary64 (w := 64) (count := 2) rfl rfl rfl⟩

/-- Settles O13: 32 bits of mask below 96 bits of A. -/
theorem cmpssSplicesLowLane : Obligations.CmpssSplicesLowLane :=
  ⟨oneFormImm_of_op (o := .cmpss) (by decide) (fun _ => rfl) (fun _ => rfl),
    fun _ _ => compared_low_lane binary32 (w := 32) (k := 96) rfl rfl⟩

/-- Settles O14: 64 bits of mask below 64 bits of A. -/
theorem cmpsdSplicesLowLane : Obligations.CmpsdSplicesLowLane :=
  ⟨oneFormImm_of_op (o := .cmpsd) (by decide) (fun _ => rfl) (fun _ => rfl),
    fun _ _ => compared_low_lane binary64 (w := 64) (k := 64) rfl rfl⟩

/-- Settles O15: the relation orders the scaled values, and scaling is strictly monotone up to the infinities at both ends. -/
theorem relationFollowsExactValues : Obligations.RelationFollowsExactValues := by
  refine ⟨fun a b => ?_, fun a b => ?_⟩
  · rw [rel_eq_un_iff, Bool.or_eq_true, ← isNaN_binary32_iff, ← isNaN_binary32_iff]
    exact ⟨Iff.rfl, rel_follows_extendedVal (by decide)⟩
  · rw [rel_eq_un_iff, Bool.or_eq_true, ← isNaN_binary64_iff, ← isNaN_binary64_iff]
    exact ⟨Iff.rfl, rel_follows_extendedVal (by decide)⟩

/-- Settles O16, for both formats by the one law of the compositions. -/
theorem compositionsAgreeWithTable : Obligations.CompositionsAgreeWithTable := by
  refine ⟨by decide, fun row hrow a b => ?_, fun row hrow a b => ?_⟩
  · exact composed_eq_onRelation binary32 a b row hrow
  · exact composed_eq_onRelation binary64 a b row hrow

/-- Settles O17: the result of a compare sees of its row the lane masks alone, and no compare is SETCSR. -/
theorem signallingMarkChangesNothing : Obligations.SignallingMarkChangesNothing := by
  intro s p hp
  refine ⟨?_, ?_, ?_, ?_, ?_, ?_, fun q _ i hi => ?_⟩
  rotate_right 1
  · obtain ⟨t, ht, hcsr, -⟩ := onlySetcsrChangesCsr i s
    refine ⟨t, ht, hcsr ?_⟩
    rintro rfl
    simp at hi
  all_goals exact comparing_signalling hp s fun _ _ h => by simp only [compareLane_congr h]

end Sys2Proof.Proofs
end

section
/-! PROOFS of the statements about the half decoder (O18 to O20): the fields of a packed float32, H2F by the class of its
operand, and the magnitude that each class keeps (R11, R12, R210 to R213). -/

open Sys2Proof Sys2Proof.Machine Sys2Proof.Claims

namespace Sys2Proof.Machine

/-! ### The fields of a packed float32 (R11) -/

theorem getLsbD_packSingle (s : Bool) (e m j : Nat) :
    (packSingle s e m).getLsbD j =
      if j < 23 then (BitVec.ofNat 23 m).getLsbD j
      else if j < 31 then (BitVec.ofNat 8 e).getLsbD (j - 23)
      else (BitVec.ofBool s).getLsbD (j - 31) := by
  have hexp : j - 23 < 8 ↔ j < 31 := by omega
  rw [packSingle, BitVec.getLsbD_append, BitVec.getLsbD_append, Nat.sub_sub]
  simp only [hexp]

@[simp] theorem signOf_packSingle (s : Bool) (e m : Nat) : signOf binary32 (packSingle s e m) = s :=
  (getLsbD_packSingle s e m 31).trans (by simp)

theorem expOf_packSingle (s : Bool) {e : Nat} (he : e < 2 ^ 8) (m : Nat) : expOf binary32 (packSingle s e m) = e := by
  have hfield : (packSingle s e m).extractLsb' 23 8 = BitVec.ofNat 8 e := by
    apply BitVec.eq_of_getLsbD_eq
    intro j hj
    have hlt : 23 + j < 31 := by omega
    rw [BitVec.getLsbD_extractLsb', getLsbD_packSingle]
    simp [hj, hlt]
  exact (congrArg BitVec.toNat hfield).trans (Nat.mod_eq_of_lt he)

theorem fracOf_packSingle (s : Bool) (e : Nat) {m : Nat} (hm : m < 2 ^ 23) : fracOf binary32 (packSingle s e m) = m :=
  (congrArg BitVec.toNat BitVec.extractLsb'_append_eq_right).trans (Nat.mod_eq_of_lt hm)

/-! ### H2F by the class of its operand (R210) -/

/-- The shift that moves the leading one of a denormal's fraction to place 10. -/
theorem exists_normalizing_shift {m : Nat} (hm : m ≠ 0) (hlt : m < 2 ^ 10) :
    ∃ p, 11 - bitlen m = p ∧ p ≤ 10 ∧ 2 ^ 10 ≤ m <<< p ∧ m <<< p < 2 ^ 11 := by
  have hlog : m.log2 < 10 := (Nat.log2_lt hm).2 hlt
  have hplace : m.log2 + (11 - bitlen m) = 10 := by unfold bitlen; omega
  refine ⟨_, rfl, by omega, ?_, ?_⟩
  · calc 2 ^ 10 = 2 ^ m.log2 * 2 ^ (11 - bitlen m) := by rw [← Nat.pow_add, hplace]
      _ ≤ m <<< (11 - bitlen m) := by
        rw [Nat.shiftLeft_eq]
        exact Nat.mul_le_mul_right _ (Nat.log2_self_le hm)
  · calc m <<< (11 - bitlen m) < 2 ^ (m.log2 + 1) * 2 ^ (11 - bitlen m) := by
          rw [Nat.shiftLeft_eq]
          exact Nat.mul_lt_mul_of_pos_right Nat.lt_log2_self (by positivity)
      _ = 2 ^ 11 := by rw [← Nat.pow_add, Nat.add_right_comm, hplace]

theorem h2f_of_expOnes {h : BitVec 16} (hexp : expOf binary16 h = 31) :
    h2f h = packSingle (signOf binary16 h) 0xFF (fracOf binary16 h * 2 ^ 13) := by
  simp [h2f, hexp]

/-- H2F of a zero, of a denormal, of an infinity or NaN, and of a normal number. -/
theorem h2f_cases (h : BitVec 16) :
    (expOf binary16 h = 0 ∧ fracOf binary16 h = 0 ∧ h2f h = packSingle (signOf binary16 h) 0 0) ∨
    (∃ p ≤ 10, expOf binary16 h = 0 ∧ 2 ^ 10 ≤ fracOf binary16 h <<< p ∧ fracOf binary16 h <<< p < 2 ^ 11 ∧
      h2f h = packSingle (signOf binary16 h) (113 - p) ((fracOf binary16 h <<< p) % 2 ^ 10 * 2 ^ 13)) ∨
    (expOf binary16 h = 31 ∧ h2f h = packSingle (signOf binary16 h) 0xFF (fracOf binary16 h * 2 ^ 13)) ∨
    (1 ≤ expOf binary16 h ∧ expOf binary16 h ≤ 30 ∧
      h2f h = packSingle (signOf binary16 h) (expOf binary16 h + 112) (fracOf binary16 h * 2 ^ 13)) := by
  have hle : expOf binary16 h ≤ 31 := Nat.le_of_lt_succ (expOf_lt binary16 h)
  by_cases hexp : expOf binary16 h = 0
  · by_cases hfrac : fracOf binary16 h = 0
    · exact .inl ⟨hexp, hfrac, by simp [h2f, hexp, hfrac]⟩
    · obtain ⟨p, hp, hple, hlow, hhigh⟩ := exists_normalizing_shift hfrac (fracOf_lt binary16 h)
      exact .inr (.inl ⟨p, hple, hexp, hlow, hhigh, by simp [h2f, hexp, hfrac, hp]⟩)
  · by_cases hones : expOf binary16 h = 31
    · exact .inr (.inr (.inl ⟨hones, h2f_of_expOnes hones⟩))
    · exact .inr (.inr (.inr ⟨by omega, by omega, by simp [h2f, hexp, hones]⟩))

theorem isFinite_binary16_iff {h : BitVec 16} : isFinite binary16 h ↔ expOf binary16 h ≠ 31 := bne_iff_ne

/-! ### What H2F keeps (R210, R211) -/

theorem signOf_h2f (h : BitVec 16) : signOf binary32 (h2f h) = signOf binary16 h := by
  obtain ⟨-, -, heq⟩ | ⟨p, -, -, -, -, heq⟩ | ⟨-, heq⟩ | ⟨-, -, heq⟩ := h2f_cases h <;> rw [heq, signOf_packSingle]

theorem isInf_h2f {h : BitVec 16} (hinf : isInf binary16 h) : isInf binary32 (h2f h) := by
  simp only [isInf, Bool.and_eq_true, beq_iff_eq] at hinf ⊢
  obtain ⟨hexp, hfrac⟩ := hinf
  rw [h2f_of_expOnes hexp, hfrac]
  exact ⟨expOf_packSingle _ (by decide) _, fracOf_packSingle _ _ (by decide)⟩

theorem isFinite_h2f {h : BitVec 16} (hfinite : isFinite binary16 h) : isFinite binary32 (h2f h) := by
  have hones : expOnes binary32 = 255 := rfl
  rw [isFinite, bne_iff_ne, hones]
  obtain ⟨-, -, heq⟩ | ⟨p, -, -, -, -, heq⟩ | ⟨hexp, -⟩ | ⟨-, hle, heq⟩ := h2f_cases h
  · rw [heq, expOf_packSingle _ (by omega)]; omega
  · rw [heq, expOf_packSingle _ (by omega)]; omega
  · exact absurd hexp (isFinite_binary16_iff.mp hfinite)
  · rw [heq, expOf_packSingle _ (by omega)]; omega

/-- A significand of eleven bits, its leading one hidden, in units of float32's least denormal. -/
theorem scaledMagnitude_packSingle (s : Bool) {e M : Nat} (hpos : 1 ≤ e) (he : e < 2 ^ 8) (hlow : 2 ^ 10 ≤ M)
    (hhigh : M < 2 ^ 11) : scaledMagnitude binary32 (packSingle s e (M % 2 ^ 10 * 2 ^ 13)) = M * 2 ^ (e + 12) := by
  have hlead : 2 ^ binary32.fracBits + M % 2 ^ 10 * 2 ^ 13 = M * 2 ^ 13 := by
    show 2 ^ 23 + M % 2 ^ 10 * 2 ^ 13 = M * 2 ^ 13
    omega
  have hweight : 13 + (e - 1) = e + 12 := by omega
  rw [scaledMagnitude, expOf_packSingle s he, fracOf_packSingle s e (by omega), if_neg (by omega), hlead,
    Nat.mul_assoc, ← Nat.pow_add, hweight]

/-- A finite float16 keeps its magnitude: float16's least denormal, 2^-24, is 2^125 of float32's, 2^-149. -/
theorem scaledMagnitude_h2f {h : BitVec 16} (hfinite : isFinite binary16 h) :
    scaledMagnitude binary32 (h2f h) = scaledMagnitude binary16 h * 2 ^ 125 := by
  have hfrac : fracOf binary16 h < 2 ^ 10 := fracOf_lt binary16 h
  obtain ⟨hexp, hzero, heq⟩ | ⟨p, hp, hexp, hlow, hhigh, heq⟩ | ⟨hexp, -⟩ | ⟨hpos, hle, heq⟩ := h2f_cases h
  · rw [heq, scaledMagnitude, expOf_packSingle _ (by decide), fracOf_packSingle _ _ (by decide), scaledMagnitude, hexp, hzero]
    rfl
  · have hweight : p + (113 - p + 12) = 125 := by omega
    rw [heq, scaledMagnitude_packSingle _ (by omega) (by omega) hlow hhigh, scaledMagnitude, if_pos hexp, Nat.shiftLeft_eq,
      Nat.mul_assoc, ← Nat.pow_add, hweight]
  · exact absurd hexp (isFinite_binary16_iff.mp hfinite)
  · have hlead : (2 ^ 10 + fracOf binary16 h) % 2 ^ 10 = fracOf binary16 h := by omega
    have hweight : expOf binary16 h + 112 + 12 = expOf binary16 h - 1 + 125 := by omega
    rw [heq, ← hlead, scaledMagnitude_packSingle _ (by omega) (by omega) (by omega) (by omega), scaledMagnitude,
      if_neg (by omega), hweight, Nat.pow_add 2 _ 125, ← Nat.mul_assoc]
    rfl

theorem scaledVal_h2f {h : BitVec 16} (hfinite : isFinite binary16 h) :
    scaledVal binary32 (h2f h) = scaledVal binary16 h * 2 ^ 125 := by
  rw [scaledVal_eq_magnitude, scaledVal_eq_magnitude, signOf_h2f, scaledMagnitude_h2f hfinite]
  split <;> push_cast <;> ring

/-- A finite float16 keeps its exact value (R12, R210). -/
theorem floatVal_h2f {h : BitVec 16} (hfinite : isFinite binary16 h) :
    floatVal binary32 (h2f h) = floatVal binary16 h := by
  have hunits : (2 : ℚ) ^ 125 * (2 : ℚ) ^ ((1 : ℤ) - binary32.bias - binary32.fracBits) =
      (2 : ℚ) ^ ((1 : ℤ) - binary16.bias - binary16.fracBits) := by
    rw [← zpow_natCast, ← zpow_add₀ two_ne_zero]
    rfl
  rw [floatVal_eq_scaledVal_mul, floatVal_eq_scaledVal_mul, scaledVal_h2f hfinite, ← hunits]
  push_cast
  ring

theorem not_isInf_of_isFinite {fmt : FloatFormat} {n : Nat} {f : BitVec n} (h : isFinite fmt f) : isInf fmt f = false := by
  have hexp : expOf fmt f ≠ expOnes fmt := by simpa [isFinite] using h
  simp [isInf, hexp]

/-! ### NaNs (R212) -/

theorem isNaN_binary16_iff (h : BitVec 16) : isNaN binary16 h ↔ NaN16 h := by
  simp only [isNaN, NaN16, expOf, fracOf, expOnes, binary16, Bool.and_eq_true, beq_iff_eq, bne_iff_ne, ne_eq,
    ← BitVec.toNat_inj]
  rfl

theorem ofBool_signOf_binary16 (h : BitVec 16) : BitVec.ofBool (signOf binary16 h) = h.extractLsb' 15 1 := by
  ext j hj
  obtain rfl : j = 0 := by omega
  simp [signOf, binary16]

/-- The ten fraction bits move to the top of float32's fraction. -/
theorem ofNat_fracOf_binary16_mul (h : BitVec 16) :
    BitVec.ofNat 23 (fracOf binary16 h * 2 ^ 13) = h.extractLsb' 0 10 ++ 0#13 := by
  have hfrac : fracOf binary16 h < 2 ^ 10 := fracOf_lt binary16 h
  apply BitVec.eq_of_toNat_eq
  rw [BitVec.toNat_append, BitVec.toNat_ofNat, Nat.mod_eq_of_lt (by omega), Nat.shiftLeft_eq]
  exact (Nat.or_zero _).symm

/-- A half of exponent all ones is moved field by field. -/
theorem h2f_eq_append_of_expOnes {h : BitVec 16} (hexp : expOf binary16 h = 31) :
    h2f h = h.extractLsb' 15 1 ++ BitVec.allOnes 8 ++ h.extractLsb' 0 10 ++ 0#13 := by
  have hones : BitVec.ofNat 8 0xFF = BitVec.allOnes 8 := rfl
  rw [h2f_of_expOnes hexp, packSingle, ofBool_signOf_binary16, ofNat_fracOf_binary16_mul, hones,
    BitVec.append_assoc (x₂ := h.extractLsb' 0 10) (x₃ := 0#13), BitVec.cast_eq]

end Sys2Proof.Machine

namespace Sys2Proof.Proofs

/-- Settles O18: each form builds R from the decoded lanes, and four float lanes end at bit 128. -/
theorem vcvtph2psConvertsEveryLane : Obligations.Vcvtph2psConvertsEveryLane := by
  refine ⟨twoForms_of_op (o := .vcvtph2ps) rfl rfl rfl, fun s => ⟨⟨_, rfl, ?_, ?_⟩, _, rfl, ?_⟩⟩
  · exact lane_ofLanes_of_lt 256 32 4 _ (by decide)
  · exact extractLsb'_ofLanes_above _ (by decide) 128
  · exact lane_ofLanes_of_lt 256 32 8 _ (by decide)

/-- Settles O19: an infinity stays one, and the scaled value of a finite half is kept up to the ratio of the two units. -/
theorem halfDecodeIsExact : Obligations.HalfDecodeIsExact := by
  intro h hnan
  rw [← isNaN_binary16_iff] at hnan
  refine ⟨signOf_h2f h, ?_⟩
  obtain hinf | hfinite := isInf_or_isFinite_of_not_isNaN hnan
  · rw [if_pos hinf]
    exact ⟨isInf_h2f hinf, fun hnot => absurd hinf (by simp [hnot])⟩
  · rw [not_isInf_of_isFinite hfinite]
    exact ⟨isFinite_h2f hfinite, fun _ => floatVal_h2f hfinite⟩

/-- Settles O20: H2F copies the fields of every half with exponent all ones, and a NaN is one. -/
theorem halfDecodeKeepsNaNPayload : Obligations.HalfDecodeKeepsNaNPayload := by
  rintro h ⟨hexp, -⟩
  exact h2f_eq_append_of_expOnes (congrArg BitVec.toNat hexp)

end Sys2Proof.Proofs
end

section
/-! PROOFS about the values behind the patterns of a float (R11, R12): the bits below the sign order the magnitudes, and their
successor is one ulp further; the patterns of float16 in these terms. -/

open Sys2Proof Sys2Proof.Machine Sys2Proof.Claims

namespace Sys2Proof.Machine

/-! ### The bits below the sign, as a number -/

/-- Exponent and fraction as one number. -/
def magnitudeBits (fmt : FloatFormat) {n : Nat} (f : BitVec n) : Nat := expOf fmt f * 2 ^ fmt.fracBits + fracOf fmt f

/-- The magnitude that the bits m below the sign stand for, with p fraction bits, in units of the least denormal. -/
def patternMagnitude (p m : Nat) : Nat :=
  if m / 2 ^ p = 0 then m % 2 ^ p else (2 ^ p + m % 2 ^ p) * 2 ^ (m / 2 ^ p - 1)

theorem mul_two_pow_add_div (p j t : Nat) : (j * 2 ^ p + t) / 2 ^ p = j + t / 2 ^ p := by
  rw [Nat.mul_comm, Nat.mul_add_div (by positivity)]

theorem magnitudeBits_div (fmt : FloatFormat) {n : Nat} (f : BitVec n) :
    magnitudeBits fmt f / 2 ^ fmt.fracBits = expOf fmt f := by
  rw [magnitudeBits, mul_two_pow_add_div, Nat.div_eq_of_lt (fracOf_lt fmt f), Nat.add_zero]

theorem magnitudeBits_mod (fmt : FloatFormat) {n : Nat} (f : BitVec n) :
    magnitudeBits fmt f % 2 ^ fmt.fracBits = fracOf fmt f := by
  rw [magnitudeBits, Nat.mul_add_mod', Nat.mod_eq_of_lt (fracOf_lt fmt f)]

theorem scaledMagnitude_eq_patternMagnitude (fmt : FloatFormat) {n : Nat} (f : BitVec n) :
    scaledMagnitude fmt f = patternMagnitude fmt.fracBits (magnitudeBits fmt f) := by
  rw [scaledMagnitude, patternMagnitude, magnitudeBits_div, magnitudeBits_mod]

/-- A significand t at exponent j, normalized unless j = 0: its leading one counts the exponent field up. -/
theorem patternMagnitude_significand {p j t : Nat} (hlt : t < 2 ^ (p + 1)) (hnormal : j = 0 ∨ 2 ^ p ≤ t) :
    patternMagnitude p (j * 2 ^ p + t) = t * 2 ^ j ∧ (j * 2 ^ p + t) / 2 ^ p - 1 = j := by
  rw [Nat.pow_succ'] at hlt
  rw [patternMagnitude, mul_two_pow_add_div, Nat.mul_add_mod']
  by_cases hlead : 2 ^ p ≤ t
  · have hdiv : t / 2 ^ p = 1 := by
      rw [Nat.div_eq_iff (by positivity)]
      omega
    have hmod : t % 2 ^ p = t - 2 ^ p := by rw [Nat.mod_eq_sub_mod hlead, Nat.mod_eq_of_lt (by omega)]
    rw [hdiv, hmod, if_neg (by omega), Nat.add_sub_cancel' hlead]
    exact ⟨rfl, rfl⟩
  · obtain rfl : j = 0 := hnormal.resolve_right hlead
    simp [Nat.div_eq_of_lt (not_le.mp hlead), Nat.mod_eq_of_lt (not_le.mp hlead)]

theorem exists_significand (p m : Nat) : ∃ j t, m = j * 2 ^ p + t ∧ t < 2 ^ (p + 1) ∧ (j = 0 ∨ 2 ^ p ≤ t) := by
  have hmod : m % 2 ^ p < 2 ^ p := Nat.mod_lt _ (by positivity)
  have hm := Nat.div_add_mod' m (2 ^ p)
  rw [Nat.pow_succ']
  cases hexp : m / 2 ^ p with
  | zero => exact ⟨0, m % 2 ^ p, by rw [← hexp, hm], by omega, .inl rfl⟩
  | succ j =>
    rw [hexp, Nat.succ_mul, Nat.add_assoc] at hm
    exact ⟨j, 2 ^ p + m % 2 ^ p, hm.symm, by omega, .inr (Nat.le_add_right _ _)⟩

/-- The next pattern is one ulp further: the significand counts up, and past its end the exponent does. -/
theorem patternMagnitude_succ (p m : Nat) :
    patternMagnitude p (m + 1) = patternMagnitude p m + 2 ^ (m / 2 ^ p - 1) := by
  obtain ⟨j, t, rfl, hlt, hnormal⟩ := exists_significand p m
  obtain ⟨hmagnitude, hexp⟩ := patternMagnitude_significand hlt hnormal
  rw [hmagnitude, hexp, ← Nat.succ_mul]
  obtain hnext | hcarry := Nat.lt_or_eq_of_le (Nat.succ_le_of_lt hlt)
  · obtain ⟨hsucc, -⟩ := patternMagnitude_significand hnext (hnormal.imp_right Nat.le_succ_of_le)
    exact hsucc
  · have hlast : j * 2 ^ p + t + 1 = (j + 1) * 2 ^ p + 2 ^ p := by
      rw [Nat.add_assoc, ← Nat.succ_eq_add_one t, hcarry]
      ring
    obtain ⟨hsucc, -⟩ := patternMagnitude_significand (j := j + 1)
      (Nat.pow_lt_pow_right Nat.one_lt_two (Nat.lt_succ_self p)) (.inr le_rfl)
    rw [hlast, hsucc, hcarry]
    ring

theorem patternMagnitude_strictMono (p : Nat) : StrictMono (patternMagnitude p) :=
  strictMono_nat_of_lt_succ fun m => by
    rw [patternMagnitude_succ]
    exact Nat.lt_add_of_pos_right (by positivity)

theorem magnitudeBits_eq_mod (fmt : FloatFormat) {n : Nat} (f : BitVec n) :
    magnitudeBits fmt f = f.toNat % 2 ^ (fmt.expBits + fmt.fracBits) := by
  rw [magnitudeBits, expOf, fracOf, BitVec.extractLsb'_toNat, BitVec.extractLsb'_toNat, Nat.shiftRight_zero,
    Nat.shiftRight_eq_div_pow, Nat.add_comm fmt.expBits, Nat.pow_add, Nat.mod_mul]
  ring

/-- A float is its sign above the bits of its magnitude. -/
theorem toNat_eq_sign_add_magnitudeBits {fmt : FloatFormat} {n : Nat} (hn : n = fmt.expBits + fmt.fracBits + 1)
    (f : BitVec n) :
    f.toNat = (signOf fmt f).toNat * 2 ^ (fmt.expBits + fmt.fracBits) + magnitudeBits fmt f := by
  have hlt : f.toNat / 2 ^ (fmt.expBits + fmt.fracBits) < 2 := by
    rw [Nat.div_lt_iff_lt_mul (by positivity), ← Nat.pow_succ', Nat.succ_eq_add_one, ← hn]
    exact f.isLt
  have hsign : (signOf fmt f).toNat = f.toNat / 2 ^ (fmt.expBits + fmt.fracBits) := by
    rw [signOf, BitVec.getLsbD, Nat.toNat_testBit, Nat.mod_eq_of_lt hlt]
  rw [hsign, magnitudeBits_eq_mod, Nat.div_add_mod']

/-- A float32 is its sign and its magnitude. -/
theorem eq_of_scaledMagnitude_eq {f g : BitVec 32} (hsign : signOf binary32 f = signOf binary32 g)
    (h : scaledMagnitude binary32 f = scaledMagnitude binary32 g) : f = g := by
  rw [scaledMagnitude_eq_patternMagnitude, scaledMagnitude_eq_patternMagnitude] at h
  apply BitVec.eq_of_toNat_eq
  rw [toNat_eq_sign_add_magnitudeBits (fmt := binary32) (n := 32) rfl f,
    toNat_eq_sign_add_magnitudeBits (fmt := binary32) (n := 32) rfl g, hsign, (patternMagnitude_strictMono _).injective h]

/-! ### The patterns of float16 -/

theorem exists_packHalf (h : BitVec 16) : ∃ s m, m < 2 ^ 15 ∧ h = packHalf s m := by
  have hbits := magnitudeBits_eq_mod binary16 h
  have hlt : magnitudeBits binary16 h < 2 ^ 15 := hbits ▸ Nat.mod_lt _ (by decide)
  refine ⟨signOf binary16 h, _, hlt, BitVec.eq_of_toNat_eq ?_⟩
  rw [toNat_packHalf _ hlt]
  exact toNat_eq_sign_add_magnitudeBits (fmt := binary16) (n := 16) rfl h

@[simp] theorem signOf_packHalf (s : Bool) (m : Nat) : signOf binary16 (packHalf s m) = s := by
  show (packHalf s m).getLsbD 15 = s
  rw [packHalf, BitVec.getLsbD_append]
  simp

theorem magnitudeBits_packHalf (s : Bool) {m : Nat} (hm : m < 2 ^ 15) : magnitudeBits binary16 (packHalf s m) = m := by
  have hbits : magnitudeBits binary16 (packHalf s m) = (packHalf s m).toNat % 2 ^ 15 := magnitudeBits_eq_mod binary16 _
  rw [hbits, toNat_packHalf s hm, Nat.mul_add_mod', Nat.mod_eq_of_lt hm]

theorem expOf_packHalf (s : Bool) {m : Nat} (hm : m < 2 ^ 15) : expOf binary16 (packHalf s m) = m / 2 ^ 10 := by
  rw [← magnitudeBits_div, magnitudeBits_packHalf s hm]
  rfl

theorem fracOf_packHalf (s : Bool) {m : Nat} (hm : m < 2 ^ 15) : fracOf binary16 (packHalf s m) = m % 2 ^ 10 := by
  rw [← magnitudeBits_mod, magnitudeBits_packHalf s hm]
  rfl

/-- The finite patterns are those up to 65504's. -/
theorem isFinite_packHalf (s : Bool) {m : Nat} (hm : m < 2 ^ 15) : isFinite binary16 (packHalf s m) ↔ m ≤ 0x7BFF := by
  rw [isFinite_binary16_iff, expOf_packHalf s hm]
  omega

theorem exists_packHalf_of_isFinite {h : BitVec 16} (hfinite : isFinite binary16 h) :
    ∃ s m, m ≤ 0x7BFF ∧ h = packHalf s m := by
  obtain ⟨s, m, hm, rfl⟩ := exists_packHalf h
  exact ⟨s, m, (isFinite_packHalf s hm).mp hfinite, rfl⟩

theorem packHalf_add_one (s : Bool) {m : Nat} (hm : m + 1 < 2 ^ 15) : packHalf s m + 1 = packHalf s (m + 1) := by
  have hsign := Bool.toNat_le s
  have hone : (1 : BitVec 16).toNat = 1 := rfl
  apply BitVec.eq_of_toNat_eq
  rw [BitVec.toNat_add, toNat_packHalf s (by omega), toNat_packHalf s hm, ← Nat.add_assoc, hone]
  exact Nat.mod_eq_of_lt (by omega)

end Sys2Proof.Machine
end

section
/-! PROOFS about F2H of a finite float32 (R230, R233, R235): the pattern it truncates to, what it discards, and the increment,
with every magnitude in units of float32's least denormal. -/

open Sys2Proof Sys2Proof.Machine Sys2Proof.Claims

namespace Sys2Proof.Machine

/-! ### Float16 magnitudes in float32's unit -/

/-- The magnitude of float16 pattern m, in units of 2^-149: float16's own unit is 2^125 of them. -/
def halfMagnitude (m : Nat) : Nat := patternMagnitude 10 m * 2 ^ 125

/-- Half an ulp of float16 pattern m, in units of 2^-149. -/
def tieOffset (m : Nat) : Nat := 2 ^ (m / 2 ^ 10 - 1) * 2 ^ 124

theorem tieOffset_pos (m : Nat) : 0 < tieOffset m := by unfold tieOffset; positivity

theorem halfMagnitude_succ (m : Nat) : halfMagnitude (m + 1) = halfMagnitude m + 2 * tieOffset m := by
  rw [halfMagnitude, halfMagnitude, tieOffset, patternMagnitude_succ]
  ring

theorem halfMagnitude_strictMono : StrictMono halfMagnitude := fun _ _ h =>
  Nat.mul_lt_mul_of_pos_right (patternMagnitude_strictMono 10 h) (by positivity)

/-- 65504 and its ulp of 32 (R235). -/
theorem halfMagnitude_greatest_finite : halfMagnitude 0x7BFF = 65504 * 2 ^ 149 ∧ tieOffset 0x7BFF = 16 * 2 ^ 149 := by
  decide

theorem scaledMagnitude_packHalf (s : Bool) {m : Nat} (hm : m < 2 ^ 15) :
    scaledMagnitude binary16 (packHalf s m) * 2 ^ 125 = halfMagnitude m := by
  rw [scaledMagnitude_eq_patternMagnitude, magnitudeBits_packHalf s hm]
  rfl

/-! ### Truncation -/

/-- Pattern p is the greatest finite one whose magnitude is at most X, and rem is what lies above it. -/
structure IsTruncation (X p rem : Nat) : Prop where
  finite : p ≤ 0x7BFF
  split : X = halfMagnitude p + rem
  rem_lt : p < 0x7BFF → rem < 2 * tieOffset p

theorem IsTruncation.le_of_halfMagnitude_le {X p rem q : Nat} (h : IsTruncation X p rem) (hq : q ≤ 0x7BFF)
    (hle : halfMagnitude q ≤ X) : q ≤ p := by
  by_contra hlt
  have hmono : halfMagnitude (p + 1) ≤ halfMagnitude q := halfMagnitude_strictMono.monotone (by omega)
  have hrem := h.rem_lt (by omega)
  have hsplit := h.split
  rw [halfMagnitude_succ] at hmono
  omega

theorem IsTruncation.halfMagnitude_le {X p rem : Nat} (h : IsTruncation X p rem) : halfMagnitude p ≤ X := by
  have hsplit := h.split
  omega

theorem IsTruncation.unique {X p rem q rem' : Nat} (h : IsTruncation X p rem) (h' : IsTruncation X q rem') :
    p = q ∧ rem = rem' := by
  obtain rfl : p = q := Nat.le_antisymm (h'.le_of_halfMagnitude_le h.finite h.halfMagnitude_le)
    (h.le_of_halfMagnitude_le h'.finite h'.halfMagnitude_le)
  have hsplit := h.split
  have hsplit' := h'.split
  exact ⟨rfl, by omega⟩

/-- A finite pattern truncates to itself. -/
theorem isTruncation_halfMagnitude {q : Nat} (hq : q ≤ 0x7BFF) : IsTruncation (halfMagnitude q) q 0 :=
  ⟨hq, (Nat.add_zero _).symm, fun _ => Nat.mul_pos two_pos (tieOffset_pos q)⟩

/-- Everything from 65504 on truncates to it. -/
theorem IsTruncation.eq_greatest {X p rem : Nat} (h : IsTruncation X p rem) (hX : 65504 * 2 ^ 149 ≤ X) :
    p = 0x7BFF ∧ rem = X - 65504 * 2 ^ 149 := by
  obtain ⟨hgreatest, -⟩ := halfMagnitude_greatest_finite
  have hgreatestTruncation : IsTruncation X 0x7BFF (X - 65504 * 2 ^ 149) :=
    ⟨le_rfl, by omega, fun hlt => absurd hlt (by omega)⟩
  exact h.unique hgreatestTruncation

/-! ### The increment (R233) -/

/-- The pattern after the increment, with R230's half ulp. -/
def roundedBits (mode : RoundingMode) (s : Bool) (p rem : Nat) : Nat :=
  p + if roundingIncrement mode s p rem (tieOffset p) then 1 else 0

theorem roundingIncrement_zero (mode : RoundingMode) (s : Bool) (t : Nat) {half : Nat} (h : 0 < half) :
    roundingIncrement mode s t 0 half = false := by
  cases mode <;> simp [roundingIncrement, h.ne]

/-- The increment sees the discarded part relative to half an ulp, and the parity of the truncated magnitude. -/
theorem roundingIncrement_scaled (mode : RoundingMode) (s : Bool) {t p c : Nat} (rem half : Nat) (hparity : t % 2 = p % 2)
    (hc : 0 < c) : roundingIncrement mode s p (rem * c) (half * c) = roundingIncrement mode s t rem half := by
  have hzero : rem * c = 0 ↔ rem = 0 := by simp [hc.ne']
  have htie : rem * c = half * c ↔ rem = half := Nat.mul_left_inj hc.ne'
  cases mode <;> simp only [roundingIncrement, hparity, gt_iff_lt, Nat.mul_lt_mul_right hc, Bool.beq_eq_decide_eq,
    bne, hzero, htie]

theorem roundedBits_zero (mode : RoundingMode) (s : Bool) (p : Nat) : roundedBits mode s p 0 = p := by
  rw [roundedBits, roundingIncrement_zero mode s p (tieOffset_pos p)]
  rfl

theorem roundedBits_rz (s : Bool) (p rem : Nat) : roundedBits .rz s p rem = p := rfl

/-- The directed mode of a side: RD below, RU above. -/
def directedMode (below : Bool) : RoundingMode := if below then .rd else .ru

/-- A directed mode steps away from zero on its own side, and truncates on the other. -/
theorem roundedBits_directedMode (below s : Bool) (p rem : Nat) :
    roundedBits (directedMode below) s p rem = if s = below ∧ rem ≠ 0 then p + 1 else p := by
  cases below <;> cases s <;> by_cases hrem : rem = 0 <;> simp [roundedBits, directedMode, roundingIncrement, hrem]

/-- Nearest steps up past the tie, and at it from an odd pattern. -/
theorem roundedBits_rne (s : Bool) (p rem : Nat) :
    roundedBits .rne s p rem = if tieOffset p < rem ∨ (rem = tieOffset p ∧ p % 2 = 1) then p + 1 else p := by
  simp only [roundedBits, roundingIncrement, Bool.or_eq_true, Bool.and_eq_true, decide_eq_true_eq, beq_iff_eq, gt_iff_lt]
  split <;> rfl

/-! ### F2H by exponent (R230) -/

theorem f2h_zero {f : BitVec 32} (mode : RoundingMode) (hexp : expOf binary32 f = 0) (hfrac : fracOf binary32 f = 0) :
    f2h f mode = packHalf (signOf binary32 f) 0 := by
  simp [f2h, hexp, hfrac]

theorem f2h_denormal {f : BitVec 32} (mode : RoundingMode) (hexp : expOf binary32 f = 0) (hfrac : fracOf binary32 f ≠ 0) :
    f2h f mode = f2hFinite mode (signOf binary32 f) (fracOf binary32 f) (-149)
      ((bitlen (fracOf binary32 f) : Int) - 150) := by
  simp [f2h, hexp, hfrac]

theorem f2hFinite_overflow (mode : RoundingMode) (s : Bool) (N : Nat) {k e : Int} (he : 15 < e) :
    f2hFinite mode s N k e = packHalf s (if overflowToInf mode s then 0x7C00 else 0x7BFF) := if_pos he

/-- In range, with d bits discarded: the truncated significand at exponent j, and the increment. -/
theorem f2hFinite_in_range (mode : RoundingMode) (s : Bool) {N j d : Nat} {k e : Int} (he : e ≤ 15)
    (hj : max e (-14) = (j : Int) - 14) (hd : (j : Int) - 24 - k = d) (hnormal : e < -14 ∨ 2 ^ 10 ≤ N >>> d) :
    f2hFinite mode s N k e = packHalf s (j * 2 ^ 10 + N >>> d +
      if roundingIncrement mode s (N >>> d) (N % 2 ^ d) (2 ^ (d - 1)) then 1 else 0) := by
  have hover : ¬ e > 15 := by omega
  have hshift : ((j : Int) - 14 - 10 - k).toNat = d := by omega
  simp only [f2hFinite, if_neg hover, hj, hshift]
  split
  next hge =>
    have hexp : (e + 15).toNat = j + 1 := by omega
    have hlead := hnormal.resolve_left (by omega)
    have hbits : (j + 1) <<< 10 + (N >>> d - 1024) = j * 2 ^ 10 + N >>> d := by rw [Nat.shiftLeft_eq]; omega
    rw [hexp, hbits]
  next hlt =>
    obtain rfl : j = 0 := by omega
    rw [Nat.zero_mul, Nat.zero_add]

/-! ### The fields that are kept and discarded -/

/-- The significand, its hidden one written out. -/
def significand (f : BitVec 32) : Nat :=
  if expOf binary32 f = 0 then fracOf binary32 f else 2 ^ 23 + fracOf binary32 f

/-- How many low bits of the significand lie below float16's last bit. -/
def discardedBits (f : BitVec 32) : Nat := max (126 - max (expOf binary32 f) 1) 13

/-- The pattern of the truncated significand. -/
def truncatedBits (f : BitVec 32) : Nat := (expOf binary32 f - 113) * 2 ^ 10 + significand f >>> discardedBits f

/-- The magnitude of the discarded bits. -/
def discardedMagnitude (f : BitVec 32) : Nat := significand f % 2 ^ discardedBits f * 2 ^ (expOf binary32 f - 1)

theorem significand_lt (f : BitVec 32) : significand f < 2 ^ 24 := by
  have hfrac : fracOf binary32 f < 2 ^ 23 := fracOf_lt binary32 f
  rw [significand]
  split <;> omega

theorem scaledMagnitude_eq_significand_mul (f : BitVec 32) :
    scaledMagnitude binary32 f = significand f * 2 ^ (expOf binary32 f - 1) := by
  rw [scaledMagnitude, significand]
  split
  next h => simp [h]
  next => rfl

/-- The truncated significand has eleven bits, the first of them one where the result is normal. -/
theorem significand_shiftRight_bounds (f : BitVec 32) :
    significand f >>> discardedBits f < 2 ^ 11 ∧
      (expOf binary32 f < 113 → significand f >>> discardedBits f < 2 ^ 10) ∧
      (113 ≤ expOf binary32 f → 2 ^ 10 ≤ significand f >>> discardedBits f) := by
  have hlt := significand_lt f
  rw [Nat.shiftRight_eq_div_pow]
  by_cases hexp : expOf binary32 f < 113
  · have hbits : 2 ^ 14 ≤ 2 ^ discardedBits f := Nat.pow_le_pow_right two_pos (by unfold discardedBits; omega)
    have hquot : significand f / 2 ^ discardedBits f < 2 ^ 10 :=
      (Nat.div_lt_iff_lt_mul (by positivity)).mpr (by omega)
    exact ⟨by omega, fun _ => hquot, fun _ => by omega⟩
  · have hbits : discardedBits f = 13 := by unfold discardedBits; omega
    have hlead : 2 ^ 23 ≤ significand f := by
      rw [significand, if_neg (by omega)]
      exact Nat.le_add_right _ _
    rw [hbits]
    omega

theorem discardedBits_add {f : BitVec 32} (hexp : expOf binary32 f ≤ 142) :
    discardedBits f + (expOf binary32 f - 1) = expOf binary32 f - 113 + 125 := by
  unfold discardedBits
  omega

/-- Below 2^16 F2H keeps the truncated significand and rounds on what it discards. -/
theorem f2h_eq_packHalf_significand {f : BitVec 32} (mode : RoundingMode) (hexp : expOf binary32 f ≤ 142) :
    f2h f mode = packHalf (signOf binary32 f) (truncatedBits f +
      if roundingIncrement mode (signOf binary32 f) (significand f >>> discardedBits f)
        (significand f % 2 ^ discardedBits f) (2 ^ (discardedBits f - 1)) then 1 else 0) := by
  obtain ⟨-, -, hnormal⟩ := significand_shiftRight_bounds f
  have hweight := discardedBits_add hexp
  rcases Nat.eq_zero_or_pos (expOf binary32 f) with hzero | hpos
  · have hsig : significand f = fracOf binary32 f := if_pos hzero
    by_cases hfrac : fracOf binary32 f = 0
    · rw [f2h_zero mode hzero hfrac, truncatedBits, hsig, hfrac, hzero, Nat.zero_mod, Nat.zero_shiftRight,
        roundingIncrement_zero mode _ 0 (by positivity)]
      rfl
    · have hlog : Nat.log2 (fracOf binary32 f) < 23 := (Nat.log2_lt hfrac).2 (fracOf_lt binary32 f)
      have hlen : (bitlen (fracOf binary32 f) : Int) ≤ 23 := by unfold bitlen; omega
      rw [f2h_denormal mode hzero hfrac, truncatedBits, hsig]
      exact f2hFinite_in_range mode _ (by omega) (by omega) (by omega) (.inl (by omega))
  · have hsig : significand f = 2 ^ 23 + fracOf binary32 f := if_neg hpos.ne'
    rw [f2h_of_normal mode hpos (by omega), truncatedBits, ← hsig]
    exact f2hFinite_in_range mode _ (by omega) (by omega) (by omega) (by omega)

theorem halfMagnitude_truncatedBits (f : BitVec 32) :
    halfMagnitude (truncatedBits f) = significand f >>> discardedBits f * 2 ^ (expOf binary32 f - 113 + 125) ∧
      tieOffset (truncatedBits f) = 2 ^ (expOf binary32 f - 113 + 124) := by
  obtain ⟨hlt, -, hnormal⟩ := significand_shiftRight_bounds f
  obtain ⟨hmagnitude, hexp⟩ := patternMagnitude_significand (p := 10) (j := expOf binary32 f - 113) hlt (by omega)
  rw [halfMagnitude, tieOffset, truncatedBits, hmagnitude, hexp, Nat.pow_add, Nat.pow_add, Nat.mul_assoc]
  exact ⟨rfl, rfl⟩

/-- Below 2^16 the kept and the discarded bits are the truncation of the magnitude. -/
theorem isTruncation_truncatedBits {f : BitVec 32} (hexp : expOf binary32 f ≤ 142) :
    IsTruncation (scaledMagnitude binary32 f) (truncatedBits f) (discardedMagnitude f) := by
  obtain ⟨hlt, hdenormal, hnormal⟩ := significand_shiftRight_bounds f
  obtain ⟨hmagnitude, htie⟩ := halfMagnitude_truncatedBits f
  have hweight := discardedBits_add hexp
  refine ⟨by unfold truncatedBits; omega, ?_, fun _ => ?_⟩
  · calc scaledMagnitude binary32 f
        = (significand f >>> discardedBits f * 2 ^ discardedBits f + significand f % 2 ^ discardedBits f)
            * 2 ^ (expOf binary32 f - 1) := by
          rw [scaledMagnitude_eq_significand_mul, Nat.shiftRight_eq_div_pow, Nat.div_add_mod']
      _ = _ := by rw [hmagnitude, ← hweight, discardedMagnitude, Nat.pow_add, Nat.add_mul, Nat.mul_assoc]
  · calc discardedMagnitude f
        < 2 ^ discardedBits f * 2 ^ (expOf binary32 f - 1) :=
          Nat.mul_lt_mul_of_pos_right (Nat.mod_lt _ (by positivity)) (by positivity)
      _ = 2 * tieOffset (truncatedBits f) := by rw [htie, ← Nat.pow_add, hweight, ← Nat.pow_succ']

theorem f2h_eq_packHalf_truncatedBits {f : BitVec 32} (mode : RoundingMode) (hexp : expOf binary32 f ≤ 142) :
    f2h f mode = packHalf (signOf binary32 f)
      (roundedBits mode (signOf binary32 f) (truncatedBits f) (discardedMagnitude f)) := by
  obtain ⟨-, htie⟩ := halfMagnitude_truncatedBits f
  have hweight := discardedBits_add hexp
  have hparity : (significand f >>> discardedBits f) % 2 = truncatedBits f % 2 := by unfold truncatedBits; omega
  have hhalf : tieOffset (truncatedBits f) = 2 ^ (discardedBits f - 1) * 2 ^ (expOf binary32 f - 1) := by
    have hbits : 13 ≤ discardedBits f := le_max_right _ _
    rw [htie, ← Nat.pow_add]
    congr 1
    omega
  rw [f2h_eq_packHalf_significand mode hexp, roundedBits, hhalf, discardedMagnitude,
    roundingIncrement_scaled mode _ _ _ hparity (by positivity)]

/-- From 2^16 on F2H steps from 65504 to infinity or stays (R235). -/
theorem f2h_overflow {f : BitVec 32} (mode : RoundingMode) (hlow : 143 ≤ expOf binary32 f) (hhigh : expOf binary32 f ≤ 254) :
    f2h f mode = packHalf (signOf binary32 f) (if overflowToInf mode (signOf binary32 f) then 0x7C00 else 0x7BFF) := by
  rw [f2h_of_normal mode (by omega) hhigh, f2hFinite_overflow mode _ _ (by omega)]

theorem roundedBits_overflow (mode : RoundingMode) (s : Bool) {rem : Nat} (h : 16 * 2 ^ 149 < rem) :
    roundedBits mode s 0x7BFF rem = if overflowToInf mode s then 0x7C00 else 0x7BFF := by
  obtain ⟨-, htie⟩ := halfMagnitude_greatest_finite
  have hrem : rem ≠ 0 := by omega
  cases mode
  case rne => rw [roundedBits_rne, htie, if_pos (.inl h), overflowToInf, if_pos rfl]
  case rz => rfl
  case ru => exact (roundedBits_directedMode false s _ rem).trans (by cases s <;> simp [overflowToInf, hrem])
  case rd => exact (roundedBits_directedMode true s _ rem).trans (by cases s <;> simp [overflowToInf, hrem])

theorem le_scaledMagnitude_of_overflow {f : BitVec 32} (h : 143 ≤ expOf binary32 f) :
    65536 * 2 ^ 149 ≤ scaledMagnitude binary32 f := by
  have hlead : 2 ^ 23 ≤ significand f := by
    rw [significand, if_neg (by omega)]
    exact Nat.le_add_right _ _
  calc 65536 * 2 ^ 149 = 2 ^ 23 * 2 ^ 142 := by norm_num
    _ ≤ significand f * 2 ^ (expOf binary32 f - 1) :=
      Nat.mul_le_mul hlead (Nat.pow_le_pow_right two_pos (by omega))
    _ = scaledMagnitude binary32 f := (scaledMagnitude_eq_significand_mul f).symm

/-- F2H of a finite float32 truncates its magnitude to a float16 pattern and steps up by R233's increment. -/
theorem exists_truncation {f : BitVec 32} (hfinite : isFinite binary32 f) :
    ∃ p rem, IsTruncation (scaledMagnitude binary32 f) p rem ∧
      ∀ mode, f2h f mode = packHalf (signOf binary32 f) (roundedBits mode (signOf binary32 f) p rem) := by
  by_cases hexp : expOf binary32 f ≤ 142
  · exact ⟨_, _, isTruncation_truncatedBits hexp, fun mode => f2h_eq_packHalf_truncatedBits mode hexp⟩
  · have hhigh : expOf binary32 f ≤ 254 := by
      have hones : expOf binary32 f ≠ 255 := bne_iff_ne.mp hfinite
      have hlt : expOf binary32 f < 256 := expOf_lt binary32 f
      omega
    obtain ⟨hgreatest, -⟩ := halfMagnitude_greatest_finite
    have hmagnitude := le_scaledMagnitude_of_overflow (f := f) (by omega)
    refine ⟨0x7BFF, scaledMagnitude binary32 f - 65504 * 2 ^ 149, ⟨le_rfl, by omega, fun h => absurd h (lt_irrefl _)⟩,
      fun mode => ?_⟩
    rw [f2h_overflow mode (by omega) hhigh, roundedBits_overflow mode _ (by omega)]

end Sys2Proof.Machine
end

section
/-! PROOFS of the statements about the half encoder's command and special inputs (O21 to O23). -/

open Sys2Proof Sys2Proof.Machine Sys2Proof.Claims

namespace Sys2Proof.Machine

/-! ### The selector (R237) -/

theorem extractLsb'_high_eq_zero_iff (sel : Imm8) : sel.extractLsb' 4 4 = 0 ↔ sel.toNat < 0x10 := by
  refine ⟨fun h => ?_, extractLsb'_high_eq_zero⟩
  have hhigh : (sel.extractLsb' 4 4).toNat = 0 := congrArg BitVec.toNat h
  rw [BitVec.extractLsb'_toNat, Nat.shiftRight_eq_div_pow] at hhigh
  omega

/-- A conversion is made in R237's mode, or raises InvalidArgument. -/
theorem converting_eq (sel : Imm8) (s : State) (result : RoundingMode → Vec256) :
    converting sel s result = if sel.toNat < 0x10 then .next (s.complete (result (selectedMode sel s.csr)))
      else .next (s.raise .invalidArgument) := by
  obtain ⟨hne, h⟩ | ⟨hzero, h⟩ := converting_cases sel s result
  · rw [h, if_neg ((extractLsb'_high_eq_zero_iff sel).not.mp hne)]
  · rw [h, if_pos ((extractLsb'_high_eq_zero_iff sel).mp hzero), csrRC_readCsr, ofCode_eq_modeOf]
    rfl

/-! ### Special inputs (R231) -/

theorem f2h_of_expOnes {f : BitVec 32} (mode : RoundingMode) (hexp : expOf binary32 f = 255) :
    f2h f mode = packHalf (signOf binary32 f)
      (if fracOf binary32 f = 0 then 0x7C00 else 0x7E00 ||| fracOf binary32 f >>> 13) := by
  by_cases hfrac : fracOf binary32 f = 0 <;> simp [f2h, hexp, hfrac]

/-- Above the quiet bit no payload bit is or-ed: the pattern stays a NaN's. -/
theorem isNaN_packHalf_quiet (s : Bool) {m : Nat} (hm : m < 2 ^ 10) : isNaN binary16 (packHalf s (0x7E00 ||| m)) := by
  have hlow : 0x7E00 ≤ 0x7E00 ||| m := Nat.left_le_or
  have hhigh : 0x7E00 ||| m < 2 ^ 15 := Nat.or_lt_two_pow (by decide) (by omega)
  simp only [isNaN, expOf_packHalf s hhigh, fracOf_packHalf s hhigh, Bool.and_eq_true, beq_iff_eq, bne_iff_ne]
  refine ⟨?_, by omega⟩
  show (0x7E00 ||| m) / 2 ^ 10 = 31
  omega

theorem ofNat_fracOf_binary32_shiftRight (f : BitVec 32) :
    BitVec.ofNat 15 (fracOf binary32 f >>> 13) = (f.extractLsb' 13 10).setWidth 15 := by
  apply BitVec.eq_of_toNat_eq
  simp only [fracOf, binary32, BitVec.extractLsb'_toNat, BitVec.toNat_ofNat, BitVec.toNat_setWidth,
    Nat.shiftRight_eq_div_pow]
  omega

end Sys2Proof.Machine

namespace Sys2Proof.Proofs

/-- Settles O21: each form builds R from the converted lanes, four or eight of 16 bits. -/
theorem vcvtps2phConvertsEveryLane : Obligations.Vcvtps2phConvertsEveryLane := by
  refine ⟨twoFormsImm_of_op (o := .vcvtps2ph) (by decide) (fun _ => rfl) (fun _ => rfl), fun s sel => ?_⟩
  split
  next hrange =>
    refine ⟨⟨_, (converting_eq sel s _).trans (if_pos hrange), ?_, ?_⟩,
      _, (converting_eq sel s _).trans (if_pos hrange), ?_, ?_⟩
    · exact lane_ofLanes_of_lt 256 16 4 _ (by decide)
    · exact extractLsb'_ofLanes_above _ (by decide) 192
    · exact lane_ofLanes_of_lt 256 16 8 _ (by decide)
    · exact extractLsb'_ofLanes_above _ (by decide) 128
  next hrange => exact ⟨(converting_eq sel s _).trans (if_neg hrange), (converting_eq sel s _).trans (if_neg hrange)⟩

/-- Settles O22: the special inputs are told apart before the mode is looked at. -/
theorem halfEncodeSpecialInputs : Obligations.HalfEncodeSpecialInputs := by
  intro mode
  refine ⟨f2h_zero mode rfl rfl, f2h_zero mode rfl rfl, f2h_of_expOnes mode rfl, f2h_of_expOnes mode rfl, fun f hnan => ?_⟩
  have hfracLt : fracOf binary32 f < 2 ^ 23 := fracOf_lt binary32 f
  have hpayload : fracOf binary32 f >>> 13 < 2 ^ 10 := by rw [Nat.shiftRight_eq_div_pow]; omega
  obtain ⟨hexp, hfrac⟩ : expOf binary32 f = 255 ∧ fracOf binary32 f ≠ 0 := by
    simpa [isNaN, expOnes, binary32] using (isNaN_binary32_iff f).mpr hnan
  rw [f2h_of_expOnes mode hexp, if_neg hfrac]
  refine ⟨?_, (isNaN_binary16_iff _).mp (isNaN_packHalf_quiet _ hpayload)⟩
  rw [packHalf, ofBool_signOf_binary32, BitVec.ofNat_or, ofNat_fracOf_binary32_shiftRight]

/-- Settles O23: a denormal truncates to zero, and what it discards lies between zero and the tie. -/
theorem halfEncodeDenormalInputs : Obligations.HalfEncodeDenormalInputs := by
  intro f hexpField hfracField
  have hexp : expOf binary32 f = 0 := congrArg BitVec.toNat hexpField
  have hfrac : fracOf binary32 f ≠ 0 := fun h => hfracField (BitVec.eq_of_toNat_eq h)
  have hlt : fracOf binary32 f < 2 ^ 23 := fracOf_lt binary32 f
  have hmagnitude : scaledMagnitude binary32 f = fracOf binary32 f := if_pos hexp
  have hzero : halfMagnitude 0 = 0 ∧ tieOffset 0 = 2 ^ 124 := by decide
  obtain ⟨hhalf, htie⟩ := hzero
  have hdenormal : IsTruncation (scaledMagnitude binary32 f) 0 (fracOf binary32 f) :=
    ⟨by decide, by omega, fun _ => by omega⟩
  have hfinite : isFinite binary32 f := bne_iff_ne.mpr (by rw [hexp]; decide)
  obtain ⟨p, rem, htrunc, hf2h⟩ := exists_truncation hfinite
  obtain ⟨rfl, rfl⟩ := htrunc.unique hdenormal
  have hnearest : f2h f .rne = packHalf (signOf binary32 f) 0 := by rw [hf2h, roundedBits_rne, if_neg (by omega)]
  have hdirected : ∀ below,
      f2h f (directedMode below) = packHalf (signOf binary32 f) (if signOf binary32 f = below then 1 else 0) :=
    fun below => by simp only [hf2h, roundedBits_directedMode, hfrac, ne_eq, not_false_eq_true, and_true, Nat.zero_add]
  have hmodes : ∀ s, signOf binary32 f = s → f2h f .rne = packHalf s 0 ∧ f2h f .rz = packHalf s 0 ∧
      ∀ below, f2h f (directedMode below) = packHalf s (if s = below then 1 else 0) := by
    rintro s rfl
    exact ⟨hnearest, hf2h .rz, hdirected⟩
  refine ⟨fun hsign => ?_, fun hsign => ?_⟩
  · obtain ⟨hrne, hrz, hside⟩ := hmodes false hsign
    exact ⟨hrne, hrz, hside true, hside false⟩
  · obtain ⟨hrne, hrz, hside⟩ := hmodes true hsign
    exact ⟨hrne, hrz, hside false, hside true⟩

end Sys2Proof.Proofs
end

section
/-! PROOFS of the statements about F2H's overflow and directed modes (O24, O25): exact values as integers in float32's unit,
and the closest pattern on either side of a signed magnitude (R12, R230, R233, R235). -/

open Sys2Proof Sys2Proof.Machine Sys2Proof.Claims

namespace Sys2Proof.Machine

/-! ### Exact values in float32's unit (R12) -/

/-- z units of 2^-149. -/
def unitVal (z : ℤ) : ℚ := z * (2 : ℚ) ^ (-149 : ℤ)

theorem unitVal_strictMono : StrictMono unitVal := fun _ _ h =>
  mul_lt_mul_of_pos_right (Int.cast_lt.mpr h) (by positivity)

theorem unitVal_le_iff {x y : ℤ} : unitVal x ≤ unitVal y ↔ x ≤ y := unitVal_strictMono.le_iff_le

theorem unitVal_lt_iff {x y : ℤ} : unitVal x < unitVal y ↔ x < y := unitVal_strictMono.lt_iff_lt

theorem unitVal_inj {x y : ℤ} : unitVal x = unitVal y ↔ x = y := unitVal_strictMono.injective.eq_iff

theorem unitVal_zero : unitVal 0 = 0 := by rw [unitVal, Int.cast_zero, zero_mul]

theorem unitVal_sub (x y : ℤ) : unitVal x - unitVal y = unitVal (x - y) := by
  rw [unitVal, unitVal, unitVal, Int.cast_sub, sub_mul]

theorem abs_unitVal (z : ℤ) : |unitVal z| = unitVal |z| := by
  have hunit : (0 : ℚ) < (2 : ℚ) ^ (-149 : ℤ) := by positivity
  rw [unitVal, unitVal, abs_mul, abs_of_pos hunit, Int.cast_abs]

theorem unitVal_mul_two_pow (z : ℤ) : unitVal (z * 2 ^ 149) = z := by
  have hunit : (2 : ℚ) ^ 149 * (2 : ℚ) ^ (-149 : ℤ) = 1 := by
    rw [← zpow_natCast, ← zpow_add₀ two_ne_zero]
    rfl
  rw [unitVal, Int.cast_mul, Int.cast_pow, Int.cast_ofNat, mul_assoc, hunit, mul_one]

theorem unitVal_natCast_mul (n : Nat) : unitVal (n * 2 ^ 149 : Nat) = n := by
  rw [Nat.cast_mul, Nat.cast_pow]
  exact unitVal_mul_two_pow n

/-- A magnitude with its sign. -/
def withSign (s : Bool) (z : ℤ) : ℤ := if s then -z else z

theorem abs_withSign (s : Bool) (z : ℤ) : |withSign s z| = |z| := by
  cases s
  · rfl
  · exact abs_neg z

theorem withSign_sub (s : Bool) (x y : ℤ) : withSign s x - withSign s y = withSign s (x - y) := by
  cases s
  · rfl
  · exact neg_sub_neg x y |>.trans (neg_sub x y).symm

theorem floatVal_binary32 (f : BitVec 32) :
    floatVal binary32 f = unitVal (withSign (signOf binary32 f) (scaledMagnitude binary32 f)) :=
  floatVal_eq_scaledVal_mul binary32 f

theorem abs_floatVal_binary32 (f : BitVec 32) : |floatVal binary32 f| = unitVal (scaledMagnitude binary32 f) := by
  rw [floatVal_binary32, abs_unitVal, abs_withSign, Nat.abs_cast]

theorem le_abs_floatVal_iff {f : BitVec 32} (n : Nat) :
    (n : ℚ) ≤ |floatVal binary32 f| ↔ n * 2 ^ 149 ≤ scaledMagnitude binary32 f := by
  rw [abs_floatVal_binary32, ← unitVal_natCast_mul, unitVal_le_iff, Nat.cast_le]

theorem lt_abs_floatVal_iff {f : BitVec 32} (n : Nat) :
    (n : ℚ) < |floatVal binary32 f| ↔ n * 2 ^ 149 < scaledMagnitude binary32 f := by
  rw [abs_floatVal_binary32, ← unitVal_natCast_mul, unitVal_lt_iff, Nat.cast_lt]

theorem signOf_of_floatVal_pos {f : BitVec 32} (h : 0 < floatVal binary32 f) : signOf binary32 f = false := by
  rw [floatVal_binary32, ← unitVal_zero, unitVal_lt_iff] at h
  by_contra hsign
  rw [Bool.not_eq_false] at hsign
  simp only [hsign, withSign, if_true] at h
  omega

theorem signOf_of_floatVal_neg {f : BitVec 32} (h : floatVal binary32 f < 0) : signOf binary32 f = true := by
  rw [floatVal_binary32, ← unitVal_zero, unitVal_lt_iff] at h
  by_contra hsign
  rw [Bool.not_eq_true] at hsign
  simp only [hsign, withSign, Bool.false_eq_true, if_false] at h
  omega

theorem floatVal_packHalf (s : Bool) {m : Nat} (hm : m ≤ 0x7BFF) :
    floatVal binary16 (packHalf s m) = unitVal (withSign s (halfMagnitude m)) := by
  have hlt : m < 2 ^ 15 := by omega
  rw [← floatVal_h2f ((isFinite_packHalf s hlt).mpr hm), floatVal_binary32, signOf_h2f, signOf_packHalf,
    scaledMagnitude_h2f ((isFinite_packHalf s hlt).mpr hm), scaledMagnitude_packHalf s hlt]

theorem abs_floatVal_packHalf (s : Bool) {m : Nat} (hm : m ≤ 0x7BFF) :
    |floatVal binary16 (packHalf s m)| = unitVal (halfMagnitude m) := by
  rw [floatVal_packHalf s hm, abs_unitVal, abs_withSign, Nat.abs_cast]

/-! ### Overflow (R235) -/

/-- Nearest goes to infinity from the midpoint above 65504 on. -/
theorem f2h_rne_of_overflow {f : BitVec 32} (hfinite : isFinite binary32 f)
    (hX : 65520 * 2 ^ 149 ≤ scaledMagnitude binary32 f) : f2h f .rne = packHalf (signOf binary32 f) 0x7C00 := by
  obtain ⟨p, rem, htrunc, hf2h⟩ := exists_truncation hfinite
  obtain ⟨rfl, hrem⟩ := htrunc.eq_greatest (by omega)
  obtain ⟨-, htie⟩ := halfMagnitude_greatest_finite
  rw [hf2h, roundedBits_rne, if_pos (by omega)]

/-- A directed mode goes to infinity above 65504 on its own side, and stays on the other. -/
theorem f2h_directed_of_overflow {f : BitVec 32} (hfinite : isFinite binary32 f)
    (hX : 65504 * 2 ^ 149 < scaledMagnitude binary32 f) :
    f2h f .rz = packHalf (signOf binary32 f) 0x7BFF ∧ ∀ below,
      f2h f (directedMode below) = packHalf (signOf binary32 f) (if signOf binary32 f = below then 0x7C00 else 0x7BFF) := by
  obtain ⟨p, rem, htrunc, hf2h⟩ := exists_truncation hfinite
  obtain ⟨rfl, hrem⟩ := htrunc.eq_greatest hX.le
  have hpos : rem ≠ 0 := by omega
  exact ⟨hf2h .rz, fun below => by simp only [hf2h, roundedBits_directedMode, hpos, ne_eq, not_false_eq_true, and_true]⟩

/-! ### The closest pattern on a side (R230) -/

theorem withSign_self (s : Bool) (z : ℤ) : withSign s (withSign s z) = z := by
  cases s
  · rfl
  · exact neg_neg z

theorem withSign_of_ne {b s : Bool} (h : s ≠ b) (z : ℤ) : withSign b (withSign s z) = -z := by
  obtain rfl : s = !b := Bool.eq_not.mpr h
  cases b <;> rfl

theorem withSign_withSign_cases (b s : Bool) (z : ℤ) :
    withSign b (withSign s z) = z ∨ withSign b (withSign s z) = -z := by
  by_cases h : s = b
  · exact .inl (h ▸ withSign_self s z)
  · exact .inr (withSign_of_ne h z)

/-- y lies on the side of x that RD (below) or RU (above) rounds to. -/
def OnSide (below : Bool) (x y : ℚ) : Prop := if below then y ≤ x else x ≤ y

theorem onSide_unitVal {below : Bool} {x y : ℤ} :
    OnSide below (unitVal x) (unitVal y) ↔ withSign below x ≤ withSign below y := by
  cases below
  · exact unitVal_le_iff
  · exact unitVal_le_iff.trans neg_le_neg_iff.symm

theorem IsTruncation.closest_above {X p rem q : Nat} (h : IsTruncation X p rem) (hq : q ≤ 0x7BFF)
    (hle : X ≤ halfMagnitude q) :
    (if rem ≠ 0 then p + 1 else p) ≤ q ∧ X ≤ halfMagnitude (if rem ≠ 0 then p + 1 else p) := by
  have hsplit := h.split
  split
  next hrem =>
    have hlt : p < q := halfMagnitude_strictMono.lt_iff_lt.mp (by omega)
    have hremLt := h.rem_lt (by omega)
    rw [halfMagnitude_succ]
    omega
  next hrem => exact ⟨halfMagnitude_strictMono.le_iff_le.mp (by omega), by omega⟩

/-- Of the patterns on the side of a signed magnitude, the directed mode's is finite and the closest. -/
theorem IsTruncation.closest_on_side {X p rem q r : Nat} (h : IsTruncation X p rem) {below s sign : Bool}
    (hr : roundedBits (directedMode below) s p rem = r) (hq : q ≤ 0x7BFF)
    (hside : withSign below (withSign s X) ≤ withSign below (withSign sign (halfMagnitude q))) :
    r ≤ 0x7BFF ∧ withSign below (withSign s X) ≤ withSign below (withSign s (halfMagnitude r)) ∧
      withSign below (withSign s (halfMagnitude r)) ≤ withSign below (withSign sign (halfMagnitude q)) := by
  have hsigned := withSign_withSign_cases below sign (halfMagnitude q)
  rw [roundedBits_directedMode] at hr
  by_cases hs : s = below
  · subst hs
    rw [withSign_self] at hside ⊢
    rw [withSign_self]
    obtain ⟨hle, habove⟩ := h.closest_above hq (by omega)
    simp only [true_and] at hr
    rw [hr] at hle habove
    have hmono := halfMagnitude_strictMono.monotone hle
    omega
  · rw [withSign_of_ne hs] at hside ⊢
    rw [withSign_of_ne hs]
    obtain rfl : p = r := by simpa [hs] using hr
    have hfinite := h.finite
    have hbelow := h.halfMagnitude_le
    have hmono : halfMagnitude q ≤ X → halfMagnitude q ≤ halfMagnitude p := fun hle =>
      halfMagnitude_strictMono.monotone (h.le_of_halfMagnitude_le hq hle)
    omega

/-- F2H in a directed mode is finite, on its side and the closest there, as soon as a float16 lies there at all. -/
theorem f2h_closest_on_side {f : BitVec 32} (hfinite : isFinite binary32 f) (below : Bool) {h : BitVec 16}
    (hh : isFinite binary16 h) (hside : OnSide below (floatVal binary32 f) (floatVal binary16 h)) :
    isFinite binary16 (f2h f (directedMode below)) ∧
    OnSide below (floatVal binary32 f) (floatVal binary16 (f2h f (directedMode below))) ∧
    OnSide below (floatVal binary16 (f2h f (directedMode below))) (floatVal binary16 h) := by
  obtain ⟨sign, q, hq, rfl⟩ := exists_packHalf_of_isFinite hh
  obtain ⟨p, rem, htrunc, hf2h⟩ := exists_truncation hfinite
  rw [floatVal_binary32, floatVal_packHalf sign hq, onSide_unitVal] at hside
  obtain ⟨hr, hon, hclosest⟩ := htrunc.closest_on_side rfl hq hside
  rw [hf2h, floatVal_packHalf _ hr, floatVal_packHalf sign hq, floatVal_binary32, onSide_unitVal, onSide_unitVal]
  exact ⟨(isFinite_packHalf _ (by omega)).mpr hr, hon, hclosest⟩

/-- Where no float16 lies on its side, a directed mode overflows to the infinity there. -/
theorem f2h_directed_of_none {f : BitVec 32} (hfinite : isFinite binary32 f) {below : Bool}
    (hnone : ∀ h : BitVec 16, isFinite binary16 h → ¬ OnSide below (floatVal binary32 f) (floatVal binary16 h)) :
    f2h f (directedMode below) = packHalf below 0x7C00 := by
  have hgreatest := hnone (packHalf below 0x7BFF) ((isFinite_packHalf below (by decide)).mpr le_rfl)
  obtain ⟨hmagnitude, -⟩ := halfMagnitude_greatest_finite
  rw [floatVal_binary32, floatVal_packHalf below le_rfl, onSide_unitVal, withSign_self, not_le, hmagnitude] at hgreatest
  have hsign : signOf binary32 f = below := by
    by_contra hne
    rw [withSign_of_ne hne] at hgreatest
    omega
  rw [hsign, withSign_self] at hgreatest
  obtain ⟨-, hoverflow⟩ := f2h_directed_of_overflow hfinite (by exact_mod_cast hgreatest)
  rw [hoverflow, hsign, if_pos rfl]

end Sys2Proof.Machine

namespace Sys2Proof.Proofs

/-- Settles O24: the signed value fixes the sign, and its magnitude lies where every mode overflows or saturates. -/
theorem halfEncodeOverflow : Obligations.HalfEncodeOverflow := by
  intro f hfinite
  have hnearest : 65520 ≤ |floatVal binary32 f| → f2h f .rne = packHalf (signOf binary32 f) 0x7C00 := fun h =>
    f2h_rne_of_overflow hfinite ((le_abs_floatVal_iff 65520).mp h)
  have hdirected : 65504 < |floatVal binary32 f| → f2h f .rz = packHalf (signOf binary32 f) 0x7BFF ∧ ∀ below,
      f2h f (directedMode below) = packHalf (signOf binary32 f) (if signOf binary32 f = below then 0x7C00 else 0x7BFF) :=
    fun h => f2h_directed_of_overflow hfinite ((lt_abs_floatVal_iff 65504).mp h)
  refine ⟨fun h => ?_, fun h => ?_, fun h => ?_, fun h => ?_⟩
  · rw [hnearest (h.trans (le_abs_self _)), signOf_of_floatVal_pos (by linarith)]
    rfl
  · rw [hnearest ((le_neg_of_le_neg h).trans (neg_le_abs _)), signOf_of_floatVal_neg (by linarith)]
    rfl
  · obtain ⟨hrz, hside⟩ := hdirected (h.trans_le (le_abs_self _))
    rw [signOf_of_floatVal_pos (by linarith)] at hrz hside
    exact ⟨hrz, hside false, hside true⟩
  · obtain ⟨hrz, hside⟩ := hdirected ((lt_neg_of_lt_neg h).trans_le (neg_le_abs _))
    rw [signOf_of_floatVal_neg (by linarith)] at hrz hside
    exact ⟨hrz, hside false, hside true⟩

/-- Settles O25: one argument for both sides, and truncation for RZ. -/
theorem directedHalfEncodeIsClosestOnItsSide : Obligations.DirectedHalfEncodeIsClosestOnItsSide := by
  intro f hfinite
  obtain ⟨p, rem, htrunc, hf2h⟩ := exists_truncation hfinite
  refine ⟨fun mode => by rw [hf2h, signOf_packHalf], fun h hh hle => f2h_closest_on_side hfinite true hh hle,
    fun hnone => f2h_directed_of_none (below := true) hfinite fun h hh => (hnone h hh).not_ge,
    fun h hh hle => f2h_closest_on_side hfinite false hh hle,
    fun hnone => f2h_directed_of_none (below := false) hfinite fun h hh => (hnone h hh).not_ge, ?_⟩
  have hp := htrunc.finite
  rw [hf2h .rz, roundedBits_rz, abs_floatVal_packHalf _ hp, abs_floatVal_binary32, unitVal_le_iff]
  refine ⟨(isFinite_packHalf _ (by omega)).mpr hp, by exact_mod_cast htrunc.halfMagnitude_le, fun h hh hle => ?_⟩
  obtain ⟨sign, q, hq, rfl⟩ := exists_packHalf_of_isFinite hh
  rw [abs_floatVal_packHalf sign hq, unitVal_le_iff, Nat.cast_le] at hle ⊢
  exact halfMagnitude_strictMono.monotone (htrunc.le_of_halfMagnitude_le hq hle)

end Sys2Proof.Proofs
end

section
/-! PROOFS of the statements about the distance from a float32 to its F2H (O26, O28): below an ulp in every mode, the least
and at most half an ulp in RNE (R230, R233, R241). -/

open Sys2Proof Sys2Proof.Machine Sys2Proof.Claims

namespace Sys2Proof.Machine

/-! ### The distance of a pattern's magnitude -/

/-- How far pattern m's magnitude is from X, in units of 2^-149. -/
def halfDistance (X m : Nat) : ℤ := |(halfMagnitude m : ℤ) - X|

theorem abs_floatVal_packHalf_sub (f : BitVec 32) {m : Nat} (hm : m ≤ 0x7BFF) :
    |floatVal binary16 (packHalf (signOf binary32 f) m) - floatVal binary32 f| =
      unitVal (halfDistance (scaledMagnitude binary32 f) m) := by
  rw [floatVal_packHalf _ hm, floatVal_binary32, unitVal_sub, abs_unitVal, withSign_sub, abs_withSign, halfDistance]

/-- Against a pattern of the other sign the magnitudes add up. -/
theorem abs_floatVal_packHalf_sub_of_ne {s : Bool} {f : BitVec 32} (hs : s ≠ signOf binary32 f) {m : Nat}
    (hm : m ≤ 0x7BFF) :
    |floatVal binary16 (packHalf s m) - floatVal binary32 f| =
      unitVal (halfMagnitude m + scaledMagnitude binary32 f) := by
  have hsum : ∀ a b : Nat, withSign s a - withSign (!s) b = withSign s (a + b) := by
    intro a b
    cases s <;> simp only [withSign, Bool.not_false, Bool.not_true, Bool.false_eq_true, if_true, if_false] <;> omega
  rw [floatVal_packHalf _ hm, floatVal_binary32, Bool.eq_not.mpr hs.symm, unitVal_sub, abs_unitVal, hsum, abs_withSign,
    abs_of_nonneg (by positivity)]

theorem IsTruncation.halfDistance_eq {X p rem : Nat} (h : IsTruncation X p rem) :
    halfDistance X p = rem ∧ (p < 0x7BFF → halfDistance X (p + 1) = 2 * tieOffset p - rem) := by
  have hsplit := h.split
  refine ⟨?_, fun hlt => ?_⟩
  · rw [halfDistance, abs_of_nonpos (by omega)]
    omega
  · have hrem := h.rem_lt hlt
    rw [halfDistance, halfMagnitude_succ, abs_of_nonneg (by omega)]
    omega

/-- A pattern other than the two around X is farther from X than the one of the two on its side. -/
theorem IsTruncation.halfDistance_lt {X p rem q : Nat} (h : IsTruncation X p rem) (hq : q ≤ 0x7BFF) :
    (q < p → halfDistance X p < halfDistance X q) ∧ (p + 1 < q → halfDistance X (p + 1) < halfDistance X q) := by
  obtain ⟨hdown, hup⟩ := h.halfDistance_eq
  have hsplit := h.split
  constructor <;> intro hlt <;> have hmono := halfMagnitude_strictMono hlt
  · rw [hdown, halfDistance, abs_of_nonpos (by omega)]
    omega
  · have hrem := h.rem_lt (by omega)
    rw [hup (by omega)]
    rw [halfMagnitude_succ] at hmono
    rw [halfDistance, abs_of_nonneg (by omega)]
    omega

/-- Below the overflow midpoint RNE picks a finite pattern within half an ulp, no pattern is closer, and it is even where
another is equally close. -/
theorem IsTruncation.nearest {X p rem r : Nat} (h : IsTruncation X p rem) {s : Bool} (hX : X < 65520 * 2 ^ 149)
    (hr : roundedBits .rne s p rem = r) :
    r ≤ 0x7BFF ∧ halfDistance X r ≤ tieOffset p ∧ ∀ q ≤ 0x7BFF,
      halfDistance X r ≤ halfDistance X q ∧ (q ≠ r → halfDistance X q = halfDistance X r → r % 2 = 0) := by
  have hsplit := h.split
  have hfinite := h.finite
  have hrem := h.rem_lt
  obtain ⟨hdown, hup⟩ := h.halfDistance_eq
  obtain ⟨hgreatest, htie⟩ := halfMagnitude_greatest_finite
  have hlast : p = 0x7BFF → rem < tieOffset p := by
    rintro rfl
    omega
  have hcases : ∀ q, q < p ∨ q = p ∨ q = p + 1 ∨ p + 1 < q := by omega
  rw [roundedBits_rne] at hr
  split at hr <;> subst hr
  next hinc =>
    have hlt : p < 0x7BFF := by omega
    have hdistance := hup hlt
    refine ⟨by omega, by omega, fun q hq => ?_⟩
    obtain ⟨hbelow, habove⟩ := h.halfDistance_lt hq
    obtain hq' | rfl | rfl | hq' := hcases q <;> omega
  next hkeep =>
    refine ⟨hfinite, by omega, fun q hq => ?_⟩
    obtain ⟨hbelow, habove⟩ := h.halfDistance_lt hq
    obtain hq' | rfl | rfl | hq' := hcases q <;> omega

theorem roundedBits_cases (mode : RoundingMode) (s : Bool) (p rem : Nat) :
    roundedBits mode s p rem = p ∨ (rem ≠ 0 ∧ roundedBits mode s p rem = p + 1) := by
  by_cases hrem : rem = 0
  · exact .inl (hrem ▸ roundedBits_zero mode s p)
  · rw [roundedBits]
    split
    · exact .inr ⟨hrem, rfl⟩
    · exact .inl rfl

/-- Up to 65504 every mode stays finite and within an ulp. -/
theorem IsTruncation.halfDistance_rounded_lt {X p rem r : Nat} (h : IsTruncation X p rem) {mode : RoundingMode} {s : Bool}
    (hX : X ≤ 65504 * 2 ^ 149) (hr : roundedBits mode s p rem = r) :
    r ≤ 0x7BFF ∧ halfDistance X r < 2 * tieOffset p := by
  have hsplit := h.split
  have hfinite := h.finite
  have hrem := h.rem_lt
  have hpos := tieOffset_pos p
  obtain ⟨hdown, hup⟩ := h.halfDistance_eq
  obtain ⟨hgreatest, -⟩ := halfMagnitude_greatest_finite
  have hlast : p = 0x7BFF → rem = 0 := by
    rintro rfl
    omega
  obtain hkeep | ⟨hrem, hinc⟩ := roundedBits_cases mode s p rem
  · obtain rfl := hkeep.symm.trans hr
    omega
  · obtain rfl := hinc.symm.trans hr
    omega

theorem getLsbD_zero_packHalf (s : Bool) {m : Nat} (hm : m < 2 ^ 15) (heven : m % 2 = 0) :
    (packHalf s m).getLsbD 0 = false := by
  rw [BitVec.getLsbD, toNat_packHalf s hm, Nat.testBit_zero, decide_eq_false_iff_not]
  omega

/-- The ulp at a float32 below 2^16 is that of the pattern it truncates to. -/
theorem halfUlpAt_eq {x : BitVec 32} : halfUlpAt x = unitVal (2 * tieOffset (truncatedBits x)) := by
  obtain ⟨-, htie⟩ := halfMagnitude_truncatedBits x
  have hexp : max ((expOf binary32 x : ℤ) - 127) (-14) - 10 = ((expOf binary32 x - 113 + 124 + 1 : ℕ) : ℤ) + -149 := by
    omega
  rw [halfUlpAt, unitVal, htie, hexp, zpow_add₀ two_ne_zero, zpow_natCast]
  push_cast
  ring

end Sys2Proof.Machine

namespace Sys2Proof.Proofs

/-- Settles O26: a half of the float's sign by the distance of the magnitudes, one of the other sign as far as the zero. -/
theorem nearestHalfEncodeIsNearestTiesToEven : Obligations.NearestHalfEncodeIsNearestTiesToEven := by
  intro f hfinite
  refine ⟨fun hlt => ?_, fun hge => ?_⟩
  · obtain ⟨p, rem, htrunc, hf2h⟩ := exists_truncation hfinite
    have hX : scaledMagnitude binary32 f < 65520 * 2 ^ 149 := by
      by_contra hge
      exact absurd ((le_abs_floatVal_iff 65520).mpr (not_lt.mp hge)) (not_le.mpr hlt)
    obtain ⟨hr, -, hnearest⟩ := htrunc.nearest hX (s := signOf binary32 f) rfl
    rw [hf2h, isFinite_packHalf _ (by omega), abs_floatVal_packHalf_sub f hr]
    refine ⟨hr, fun h hh => ?_⟩
    obtain ⟨s, q, hq, rfl⟩ := exists_packHalf_of_isFinite hh
    by_cases hs : s = signOf binary32 f
    · obtain ⟨hle, htie⟩ := hnearest q hq
      rw [hs, abs_floatVal_packHalf_sub f hq, unitVal_le_iff, unitVal_inj]
      refine ⟨hle, fun hne heq => getLsbD_zero_packHalf _ (by omega) (htie ?_ heq)⟩
      rintro rfl
      exact hne rfl
    · obtain ⟨hle, htie⟩ := hnearest 0 (Nat.zero_le _)
      have hzero : halfDistance (scaledMagnitude binary32 f) 0 = scaledMagnitude binary32 f := by
        have hmagnitude : halfMagnitude 0 = 0 := by decide
        rw [halfDistance, hmagnitude, Nat.cast_zero, zero_sub, abs_neg, Nat.abs_cast]
      rw [abs_floatVal_packHalf_sub_of_ne hs hq, unitVal_le_iff, unitVal_inj]
      exact ⟨by omega, fun _ heq => getLsbD_zero_packHalf _ (by omega) (by omega)⟩
  · rw [f2h_rne_of_overflow hfinite ((le_abs_floatVal_iff 65520).mp hge), packHalf, ofBool_signOf_binary32]

/-- Settles O28: H2F adds nothing to the distance of F2H's magnitude. -/
theorem roundTripStaysWithinOneUlp : Obligations.RoundTripStaysWithinOneUlp := by
  intro x hfinite hle
  have hX : scaledMagnitude binary32 x ≤ 65504 * 2 ^ 149 := by
    by_contra hlt
    exact absurd ((lt_abs_floatVal_iff 65504).mpr (not_le.mp hlt)) (not_lt.mpr hle)
  have hexp : expOf binary32 x ≤ 142 := by
    by_contra hover
    have hlow := le_scaledMagnitude_of_overflow (f := x) (by omega)
    omega
  have htrunc := isTruncation_truncatedBits hexp
  have hdistance : ∀ {mode r},
      roundedBits mode (signOf binary32 x) (truncatedBits x) (discardedMagnitude x) = r → r ≤ 0x7BFF →
      |floatVal binary32 (h2f (f2h x mode)) - floatVal binary32 x| =
        unitVal (halfDistance (scaledMagnitude binary32 x) r) := by
    intro mode r hr hrfinite
    rw [f2h_eq_packHalf_truncatedBits mode hexp, hr, floatVal_h2f ((isFinite_packHalf _ (by omega)).mpr hrfinite),
      abs_floatVal_packHalf_sub x hrfinite]
  have hhalf : halfUlpAt x / 2 = unitVal (tieOffset (truncatedBits x)) := by
    rw [halfUlpAt_eq, unitVal, unitVal]
    push_cast
    ring
  refine ⟨fun mode => ?_, ?_⟩
  · obtain ⟨hr, hlt⟩ := htrunc.halfDistance_rounded_lt (mode := mode) hX rfl
    rw [hdistance rfl hr, halfUlpAt_eq, unitVal_lt_iff]
    exact hlt
  · obtain ⟨hr, hhalfUlp, -⟩ := htrunc.nearest (s := signOf binary32 x) (by omega) rfl
    rw [hdistance rfl hr, hhalf, unitVal_le_iff]
    exact hhalfUlp

end Sys2Proof.Proofs
end

section
/-! PROOFS of the statements about the round trips and about the corrected table path (O27, O30): a float16 value truncates to
its own pattern with nothing discarded, and the corrections test what F2H discards (R234, R239, R241). -/

open Sys2Proof Sys2Proof.Machine Sys2Proof.Claims

namespace Sys2Proof.Machine

/-! ### Float16 values converted (R241) -/

/-- A magnitude that is a finite float16's is converted without rounding. -/
theorem f2h_of_halfMagnitude {f : BitVec 32} (mode : RoundingMode) (hfinite : isFinite binary32 f) {q : Nat}
    (hq : q ≤ 0x7BFF) (hX : scaledMagnitude binary32 f = halfMagnitude q) :
    f2h f mode = packHalf (signOf binary32 f) q := by
  obtain ⟨p, rem, htrunc, hf2h⟩ := exists_truncation hfinite
  obtain ⟨rfl, rfl⟩ := htrunc.unique (hX ▸ isTruncation_halfMagnitude hq)
  rw [hf2h, roundedBits_zero]

theorem f2h_h2f_of_isFinite {h : BitVec 16} (mode : RoundingMode) (hfinite : isFinite binary16 h) : f2h (h2f h) mode = h := by
  obtain ⟨s, q, hq, rfl⟩ := exists_packHalf_of_isFinite hfinite
  have hX : scaledMagnitude binary32 (h2f (packHalf s q)) = halfMagnitude q := by
    rw [scaledMagnitude_h2f hfinite, scaledMagnitude_packHalf s (by omega)]
  rw [f2h_of_halfMagnitude mode (isFinite_h2f hfinite) hq hX, signOf_h2f, signOf_packHalf]

theorem isInf_packHalf (s : Bool) {m : Nat} (hm : m < 2 ^ 15) : isInf binary16 (packHalf s m) ↔ m = 0x7C00 := by
  have hones : expOnes binary16 = 31 := rfl
  rw [isInf, Bool.and_eq_true, beq_iff_eq, beq_iff_eq, hones, expOf_packHalf s hm, fracOf_packHalf s hm]
  omega

theorem f2h_h2f_of_isInf {h : BitVec 16} (mode : RoundingMode) (hinf : isInf binary16 h) : f2h (h2f h) mode = h := by
  obtain ⟨s, q, hq, rfl⟩ := exists_packHalf h
  obtain rfl := (isInf_packHalf s hq).mp hinf
  obtain ⟨hexp, hfrac⟩ : expOf binary32 (h2f (packHalf s 0x7C00)) = 255 ∧ fracOf binary32 (h2f (packHalf s 0x7C00)) = 0 := by
    simpa [isInf, expOnes, binary32] using isInf_h2f hinf
  rw [f2h_of_expOnes mode hexp, if_pos hfrac, signOf_h2f, signOf_packHalf]

/-! ### The corrected table path (R234, R239) -/

theorem toNat_prefixOf (f : BitVec 32) : (prefixOf f).toNat = (signOf binary32 f).toNat * 256 + expOf binary32 f := by
  have hf : f.toNat = (signOf binary32 f).toNat * 2 ^ 31 + (expOf binary32 f * 2 ^ 23 + fracOf binary32 f) :=
    toNat_eq_sign_add_magnitudeBits (fmt := binary32) (n := 32) rfl f
  have hfrac : fracOf binary32 f < 2 ^ 23 := fracOf_lt binary32 f
  have hexp : expOf binary32 f < 2 ^ 8 := expOf_lt binary32 f
  have hsign := Bool.toNat_le (signOf binary32 f)
  rw [prefixOf, BitVec.extractLsb'_toNat, Nat.shiftRight_eq_div_pow]
  omega

theorem tableDiscards_iff (f : BitVec 32) :
    tableDiscards f ↔ fracOf binary32 f % 2 ^ (halfTableRow (expOf binary32 f)).2 ≠ 0 := by
  rw [tableDiscards, shiftTable, prefixOf_toNat_mod, bne_iff_ne]

/-- What the corrections take for lost bits, a small exponent that is not zero or fraction bits that the shift drops, is what
F2H discards. -/
theorem table_loses_iff {f : BitVec 32} (hexp : expOf binary32 f ≤ 142) :
    (expOf binary32 f ≤ 102 ∧ expOf binary32 f ≠ 0) ∨ tableDiscards f ↔ discardedMagnitude f ≠ 0 := by
  have hfrac : fracOf binary32 f < 2 ^ 23 := fracOf_lt binary32 f
  have hdiscarded : discardedMagnitude f ≠ 0 ↔ significand f % 2 ^ discardedBits f ≠ 0 := by
    rw [discardedMagnitude, Nat.mul_ne_zero_iff]
    exact and_iff_left (by positivity)
  have whole : ∀ {d}, 24 ≤ d → significand f % 2 ^ d = significand f := fun hd =>
    Nat.mod_eq_of_lt ((significand_lt f).trans_le (Nat.pow_le_pow_right two_pos hd))
  rw [hdiscarded, tableDiscards_iff]
  rcases lt_or_ge (expOf binary32 f) 103 with h103 | h103
  · have hkept : fracOf binary32 f % 2 ^ 24 = fracOf binary32 f := Nat.mod_eq_of_lt (by omega)
    rw [halfTableRow_of_lt_103 h103, whole (by unfold discardedBits; omega), hkept, significand]
    split <;> omega
  · have hsig : significand f = 2 ^ 23 + fracOf binary32 f := if_neg (by omega)
    have hshift : (halfTableRow (expOf binary32 f)).2 = discardedBits f := by
      rcases lt_or_ge (expOf binary32 f) 113 with h113 | h113
      · rw [halfTableRow_of_lt_113 h103 h113]
        unfold discardedBits
        omega
      · rw [halfTableRow_of_le_142 h113 hexp]
        unfold discardedBits
        omega
    have hdvd : 2 ^ discardedBits f ∣ 2 ^ 23 := Nat.pow_dvd_pow 2 (by unfold discardedBits; omega)
    rw [hshift, hsig, Nat.add_mod, Nat.mod_eq_zero_of_dvd hdvd, Nat.zero_add, Nat.mod_mod]
    exact or_iff_right (by omega)

/-- Below 2^16 the table path is the truncated pattern. -/
theorem tablePath_eq_truncatedBits {f : BitVec 32} (hexp : expOf binary32 f ≤ 142) :
    tablePath f = packHalf (signOf binary32 f) (truncatedBits f) ∧ isFinite binary16 (tablePath f) = true ∧
      signOf binary16 (tablePath f) = signOf binary32 f := by
  have hfinite := (isTruncation_truncatedBits hexp).finite
  rw [tablePath_eq_f2h_rz hexp, f2h_eq_packHalf_truncatedBits .rz hexp, roundedBits_rz]
  exact ⟨rfl, (isFinite_packHalf _ (by omega)).mpr hfinite, signOf_packHalf _ _⟩

theorem ne_inf_of_isFinite {h : BitVec 16} (hfinite : isFinite binary16 h = true) : h ≠ 0x7C00#16 ∧ h ≠ 0xFC00#16 := by
  constructor <;> rintro rfl <;> exact absurd hfinite (by decide)

/-- Below 2^16 a correction steps a result of its own sign up when F2H discards something. -/
theorem table_corrections_in_range {f : BitVec 32} (hexp : expOf binary32 f ≤ 142) :
    tableTruncate f = tablePath f ∧
    tableCeiling f = (if signOf binary32 f = false ∧ discardedMagnitude f ≠ 0 then tablePath f + 1 else tablePath f) ∧
    tableFloor f = (if signOf binary32 f = true ∧ discardedMagnitude f ≠ 0 then tablePath f + 1 else tablePath f) := by
  obtain ⟨-, hfinite, hsign⟩ := tablePath_eq_truncatedBits hexp
  obtain ⟨hpos, hneg⟩ := ne_inf_of_isFinite hfinite
  have hloses := table_loses_iff hexp
  have hprefix := toNat_prefixOf f
  refine ⟨by simp [tableTruncate, hfinite], ?_, ?_⟩
  · cases hs : signOf binary32 f
    · rw [hs, Bool.toNat_false, Nat.zero_mul, Nat.zero_add] at hprefix
      simp [tableCeiling, hfinite, hsign, hs, hneg, hprefix, ← hloses]
    · simp [tableCeiling, hfinite, hsign, hs, hneg]
  · cases hs : signOf binary32 f
    · simp [tableFloor, hfinite, hsign, hs, hpos]
    · rw [hs, Bool.toNat_true, Nat.one_mul] at hprefix
      simp [tableFloor, hfinite, hsign, hs, hpos, hprefix, ← hloses]

theorem table_steps_eq_f2h {f : BitVec 32} (hexp : expOf binary32 f ≤ 142) (below : Bool) :
    (if signOf binary32 f = below ∧ discardedMagnitude f ≠ 0 then tablePath f + 1 else tablePath f) =
      f2h f (directedMode below) := by
  have hfinite := (isTruncation_truncatedBits hexp).finite
  obtain ⟨hpath, -⟩ := tablePath_eq_truncatedBits hexp
  rw [f2h_eq_packHalf_truncatedBits _ hexp, roundedBits_directedMode, hpath, packHalf_add_one _ (by omega)]
  split <;> rfl

/-- An infinity that came from overflow goes back to 65504 where the correction does not round to it. -/
theorem table_corrections_of_inf {f : BitVec 32} (hpath : tablePath f = packHalf (signOf binary32 f) 0x7C00) :
    tableTruncate f = packHalf (signOf binary32 f) (if (halfTableRow (expOf binary32 f)).2 % 2 = 0 then 0x7BFF else 0x7C00) ∧
    tableCeiling f = packHalf (signOf binary32 f)
      (if signOf binary32 f = true ∧ isFinite binary32 f = true then 0x7BFF else 0x7C00) ∧
    tableFloor f = packHalf (signOf binary32 f)
      (if signOf binary32 f = false ∧ isFinite binary32 f = true then 0x7BFF else 0x7C00) := by
  have hinf : ∀ s, isFinite binary16 (packHalf s 0x7C00) = false ∧ (packHalf s 0x7C00 == 0xFC00#16) = s ∧
      (packHalf s 0x7C00 == 0x7C00#16) = !s ∧ packHalf s 0x7C00 - 1#16 = packHalf s 0x7BFF := by decide
  obtain ⟨hinfinite, hneg, hpos, hpred⟩ := hinf (signOf binary32 f)
  simp only [tableTruncate, tableCeiling, tableFloor, shiftTable, prefixOf_toNat_mod, hpath, hinfinite, hneg, hpos, hpred,
    apply_ite (packHalf _), Bool.not_false, Bool.true_and, Bool.false_and, Bool.false_eq_true, if_false, beq_iff_eq,
    Bool.and_eq_true, Bool.not_eq_true', BitVec.ofNat_eq_ofNat, and_self]

/-- From 2^16 on the table path is the float's infinity; a shift amount that is odd marks one that was an infinity before. -/
theorem tablePath_of_not_in_range {f : BitVec 32} (hlow : 143 ≤ expOf binary32 f) (hnan : ¬ isNaN binary32 f) :
    tablePath f = packHalf (signOf binary32 f) 0x7C00 ∧
      ((expOf binary32 f ≤ 254 ∧ isFinite binary32 f = true ∧ (halfTableRow (expOf binary32 f)).2 % 2 = 0) ∨
        (expOf binary32 f = 255 ∧ fracOf binary32 f = 0 ∧ isFinite binary32 f = false ∧
          (halfTableRow (expOf binary32 f)).2 % 2 = 1)) := by
  have hexp : expOf binary32 f < 256 := expOf_lt binary32 f
  have hones : expOnes binary32 = 255 := rfl
  by_cases hinf : expOf binary32 f = 255
  · have hfrac : fracOf binary32 f = 0 := by simpa [isNaN, hones, hinf] using hnan
    rw [tablePath_eq_packHalf, tableFraction_eq, halfTableRow_of_ge_255 hinf.ge, hfrac, isFinite, hinf, hones]
    exact ⟨rfl, .inr ⟨rfl, rfl, rfl, rfl⟩⟩
  · rw [tablePath_of_overflow hlow hinf, halfTableRow_of_lt_255 hlow (by omega)]
    exact ⟨rfl, .inl ⟨by omega, bne_iff_ne.mpr hinf, rfl⟩⟩

/-- From 2^16 on the corrections are F2H. -/
theorem table_corrections_not_in_range {f : BitVec 32} (hlow : 143 ≤ expOf binary32 f) (hnan : ¬ isNaN binary32 f) :
    tableTruncate f = f2h f .rz ∧ tableCeiling f = f2h f .ru ∧ tableFloor f = f2h f .rd := by
  obtain ⟨hpath, ⟨hexp, hfinite, hshift⟩ | ⟨hexp, hfrac, hinf, hshift⟩⟩ := tablePath_of_not_in_range hlow hnan
  · obtain ⟨htruncate, hceiling, hfloor⟩ := table_corrections_of_inf hpath
    rw [htruncate, hceiling, hfloor, f2h_overflow _ hlow hexp, f2h_overflow _ hlow hexp, f2h_overflow _ hlow hexp, hshift,
      hfinite]
    cases signOf binary32 f <;> exact ⟨rfl, rfl, rfl⟩
  · obtain ⟨htruncate, hceiling, hfloor⟩ := table_corrections_of_inf hpath
    rw [htruncate, hceiling, hfloor, f2h_of_expOnes _ hexp, f2h_of_expOnes _ hexp, f2h_of_expOnes _ hexp, hshift, hinf, hfrac]
    simp

end Sys2Proof.Machine

namespace Sys2Proof.Proofs

/-- Settles O27: H2F keeps sign and magnitude, and these two are the float. -/
theorem halfSurvivesRoundTrip : Obligations.HalfSurvivesRoundTrip := by
  refine fun mode => ⟨fun h hnan => ?_, fun x hfinite ⟨h, hh, heq⟩ => ?_⟩
  · rw [← isNaN_binary16_iff] at hnan
    obtain hinf | hfinite := isInf_or_isFinite_of_not_isNaN hnan
    · exact f2h_h2f_of_isInf mode hinf
    · exact f2h_h2f_of_isFinite mode hfinite
  · obtain ⟨s, q, hq, rfl⟩ := exists_packHalf_of_isFinite hh
    have hX : scaledMagnitude binary32 x = halfMagnitude q := by
      have habs := congrArg (fun v : ℚ => |v|) heq
      simp only [abs_floatVal_packHalf s hq, abs_floatVal_binary32, unitVal_inj, Nat.cast_inj] at habs
      exact habs.symm
    have hresult : isFinite binary16 (packHalf (signOf binary32 x) q) := (isFinite_packHalf _ (by omega)).mpr hq
    rw [f2h_of_halfMagnitude mode hfinite hq hX]
    refine eq_of_scaledMagnitude_eq ?_ ?_
    · rw [signOf_h2f, signOf_packHalf]
    · rw [scaledMagnitude_h2f hresult, scaledMagnitude_packHalf _ (by omega), hX]

/-- Settles O30: in range the corrections step up where F2H does, beyond it they undo the infinity where F2H saturates. -/
theorem tableCorrectionsGiveTheDirectedModes : Obligations.TableCorrectionsGiveTheDirectedModes := by
  intro f hnan
  rw [← isNaN_binary32_iff] at hnan
  rcases Nat.lt_or_ge 142 (expOf binary32 f) with hlow | hexp
  · exact table_corrections_not_in_range hlow hnan
  · obtain ⟨htruncate, hceiling, hfloor⟩ := table_corrections_in_range hexp
    rw [htruncate, hceiling, hfloor, table_steps_eq_f2h hexp, table_steps_eq_f2h hexp]
    exact ⟨tablePath_eq_f2h_rz hexp, rfl, rfl⟩

end Sys2Proof.Proofs
end

section
/-! PROOFS of the statements about writing CSR (O32, O57): SETCSR tests the reserved bits of the word it writes, and the scoped
rounding pattern replaces two bits of CSR and leaves those reserved bits alone (R271, R272). -/

open Sys2Proof Sys2Proof.Machine Sys2Proof.Claims

namespace Sys2Proof.Machine

/-! ### The two outcomes of SETCSR (R271) -/

theorem exec_setcsr_of_zero {s : State} (hzero : s.a.extractLsb' 16 16 = 0) :
    exec .setcsr s = .next ((s.writeCsr (s.a.extractLsb' 0 32)).complete 0) :=
  if_neg (not_not_intro hzero)

theorem exec_setcsr_of_ne_zero {s : State} (hne : s.a.extractLsb' 16 16 ≠ 0) :
    exec .setcsr s = .next (s.raise .invalidArgument) :=
  if_pos hne

/-- GETCSR's result where CSR's reserved bits are zero is CSR whole (R32, R270). -/
theorem exec_getcsr_of_csrReserved {s : State} (h : csrReserved s.csr = 0) :
    Completes .getcsr s (s.csr.setWidth 256) := by
  rw [← setWidth_of_csrReserved h]
  exact exec_getcsr s

/-! ### The bits of the scoped rounding pattern (R272) -/

/-- The mask that the pattern clears stands on the bits of RC. -/
theorem getLsbD_rcMask (i : Nat) : (0x6000#32).getLsbD i = decide (13 ≤ i ∧ i < 15) := by
  rcases Nat.lt_or_ge i 32 with hi | hi
  · revert i
    decide
  · rw [BitVec.getLsbD_of_ge _ _ hi, eq_comm, decide_eq_false_iff_not]
    omega

/-- The pattern's bits 14:13 are the new RC's. -/
theorem getLsbD_csrWithRC_of_rc (old : CsrWord) (rc : BitVec 2) {j : Nat} (hj : j < 2) :
    (csrWithRC old rc).getLsbD (13 + j) = rc.getLsbD j := by
  have hmask : (0x6000#32).getLsbD (13 + j) = true := by
    rw [getLsbD_rcMask, decide_eq_true_iff]
    omega
  rw [csrWithRC, BitVec.getLsbD_or, BitVec.getLsbD_and, BitVec.getLsbD_not, hmask]
  simp [(by omega : 13 + j < 32)]

/-- The pattern's other bits are the old value's. -/
theorem getLsbD_csrWithRC_of_not_rc (old : CsrWord) (rc : BitVec 2) {i : Nat} (hi : ¬ (13 ≤ i ∧ i < 15)) :
    (csrWithRC old rc).getLsbD i = old.getLsbD i := by
  rcases Nat.lt_or_ge i 32 with hlt | hge
  · have hmask : (0x6000#32).getLsbD i = false := by
      rw [getLsbD_rcMask, decide_eq_false_iff_not]
      exact hi
    have hshifted : (rc.setWidth 32 <<< 13).getLsbD i = false := by
      rcases Nat.lt_or_ge i 13 with hbelow | habove
      · simp [hbelow]
      · simp [BitVec.getLsbD_of_ge rc (i - 13) (by omega)]
    rw [csrWithRC, BitVec.getLsbD_or, BitVec.getLsbD_and, BitVec.getLsbD_not, hmask, hshifted]
    simp [hlt]
  · rw [BitVec.getLsbD_of_ge _ _ hge, BitVec.getLsbD_of_ge _ _ hge]

theorem csrRC_csrWithRC (old : CsrWord) (rc : BitVec 2) : csrRC (csrWithRC old rc) = rc := by
  apply BitVec.eq_of_getLsbD_eq
  intro j hj
  rw [csrRC, BitVec.getLsbD_extractLsb', getLsbD_csrWithRC_of_rc old rc hj, decide_eq_true hj, Bool.true_and]

theorem csrReserved_csrWithRC (old : CsrWord) (rc : BitVec 2) : csrReserved (csrWithRC old rc) = csrReserved old := by
  apply BitVec.eq_of_getLsbD_eq
  intro j hj
  rw [csrReserved, csrReserved, BitVec.getLsbD_extractLsb', BitVec.getLsbD_extractLsb',
    getLsbD_csrWithRC_of_not_rc old rc (by omega)]

end Sys2Proof.Machine

namespace Sys2Proof.Proofs

/-- Settles O32, by SETCSR's test of A[31:16]; those are the written word's reserved bits, so GETCSR reads all of it back. -/
theorem setcsrWritesCsrOrRaises : Obligations.SetcsrWritesCsrOrRaises := by
  refine ⟨oneForm_of_op (o := .setcsr) rfl rfl rfl, fun s => ?_⟩
  split
  next hzero =>
    exact ⟨exec_setcsr_of_zero hzero, exec_getcsr_of_csrReserved ((csrReserved_extractLsb' s.a).trans hzero)⟩
  next hne => exact exec_setcsr_of_ne_zero hne

/-- Settles O57, bit by bit: the mask and the shifted code stand on the bits of RC alone. -/
theorem roundingControlCanBeReplacedAlone : Obligations.RoundingControlCanBeReplacedAlone := fun old rc hzero =>
  ⟨csrRC_csrWithRC old rc, (csrReserved_csrWithRC old rc).trans hzero,
    fun _ h13 h14 => getLsbD_csrWithRC_of_not_rc old rc (by omega)⟩

end Sys2Proof.Proofs
end

section
/-! PROOFS of the statements about errors (O45, O46, O51): which commands have an illegal argument, that those and the reserved
words raise and every other command completes, that every step and run goes through, and that an error leaves the next command
the same CSR (R280 to R282, R284, R289, R290). -/

open Sys2Proof Sys2Proof.Machine Sys2Proof.Claims

namespace Sys2Proof

/-! ### R280's causes as rows of R63 -/

/-- R280's compares are the operations whose IMM8 is a predicate code. -/
theorem Op.contains_code_predicate (o : Op) :
    ([0x30, 0x31, 0x32, 0x33] : List (BitVec 8)).contains o.code = (o.immUse == .predicate) := by
  cases o <;> rfl

/-- R280's conversion is the operation whose IMM8 is a rounding selector. -/
theorem Op.code_beq_rounding (o : Op) : (o.code == 0x40) = (o.immUse == .rounding) := by
  cases o <;> rfl

theorem Op.code_beq_setcsr (o : Op) : (o.code == 0x51) = (o == .setcsr) := by
  cases o <;> rfl

theorem Op.ne_setcsr_of_immediate {o : Op} (h : o.immUse ≠ .mustBeZero) : o ≠ .setcsr := by
  rintro rfl
  exact h rfl

/-- R280's causes on the word of a command: its immediate where it has one, SETCSR's operand, and nothing else. -/
theorem illegalArgument_encode (i : Instr) (a : Vec256) :
    illegalArgument (encode i) a =
      ((i.op.immUse == .predicate && decide (0x1F < i.imm.toNat))
        || (i.op.immUse == .rounding && i.imm.extractLsb' 4 4 != 0)
        || (i.op == .setcsr && a.extractLsb' 16 16 != 0)) := by
  simp only [illegalArgument, encode, opField_assembleWord, immField_assembleWord, Op.contains_code_predicate,
    Op.code_beq_rounding, Op.code_beq_setcsr]

theorem illegalArgument_of_predicate {i : Instr} (h : i.op.immUse = .predicate) (a : Vec256) :
    illegalArgument (encode i) a = true ↔ 0x1F < i.imm.toNat := by
  have hne : i.op ≠ .setcsr := Op.ne_setcsr_of_immediate (by simp [h])
  simp [illegalArgument_encode, h, hne]

theorem illegalArgument_of_rounding {i : Instr} (h : i.op.immUse = .rounding) (a : Vec256) :
    illegalArgument (encode i) a = true ↔ i.imm.extractLsb' 4 4 ≠ 0 := by
  have hne : i.op ≠ .setcsr := Op.ne_setcsr_of_immediate (by simp [h])
  simp [illegalArgument_encode, h, hne]

theorem illegalArgument_setcsr (a : Vec256) :
    illegalArgument (encode .setcsr) a = true ↔ a.extractLsb' 16 16 ≠ 0 := by
  simp [illegalArgument_encode, Instr.op, Op.immUse]

/-- A command with no immediate that is not SETCSR has no argument to check. -/
theorem not_illegalArgument_of_mustBeZero {i : Instr} (h : i.op.immUse = .mustBeZero) (hne : i.op ≠ .setcsr)
    (a : Vec256) : ¬ illegalArgument (encode i) a = true := by
  simp [illegalArgument_encode, h, hne]

end Sys2Proof

namespace Sys2Proof.Machine

/-! ### The commands that raise, and those that complete -/

/-- The outcome of a command executed in s: InvalidArgument when its argument is illegal, otherwise a state with ERR = 0. -/
def RaisesIf (s : State) (illegal : Prop) (o : Host.Outcome State Fault Refusal) : Prop :=
  (illegal ∧ o = .next (s.raise .invalidArgument)) ∨ (¬ illegal ∧ ∃ t, o = .next t ∧ t.err = 0)

theorem raisesIf_complete (s : State) {illegal : Prop} (h : ¬ illegal) (x : Vec256) :
    RaisesIf s illegal (.next (s.complete x)) :=
  .inr ⟨h, _, rfl, rfl⟩

theorem raisesIf_comparing (p : Imm8) (s : State) (result : PredicateRow → Vec256) :
    RaisesIf s (0x1F < p.toNat) (comparing p s result) := by
  obtain ⟨hp, h⟩ | ⟨row, hrow, h⟩ := comparing_cases p s result
  · exact .inl ⟨hp, h⟩
  · have hp : ¬ 0x1F < p.toNat := by simp [← predicateOf_eq_none_iff, hrow]
    rw [h]
    exact raisesIf_complete s hp _

theorem raisesIf_converting (sel : Imm8) (s : State) (result : RoundingMode → Vec256) :
    RaisesIf s (sel.extractLsb' 4 4 ≠ 0) (converting sel s result) := by
  obtain ⟨hne, h⟩ | ⟨hzero, h⟩ := converting_cases sel s result
  · exact .inl ⟨hne, h⟩
  · rw [h]
    exact raisesIf_complete s (not_not_intro hzero) _

theorem raisesIf_setcsr (s : State) : RaisesIf s (s.a.extractLsb' 16 16 ≠ 0) (exec .setcsr s) := by
  by_cases h : s.a.extractLsb' 16 16 = 0
  · exact .inr ⟨not_not_intro h, _, exec_setcsr_of_zero h, rfl⟩
  · exact .inl ⟨h, exec_setcsr_of_ne_zero h⟩

/-- Every command raises InvalidArgument exactly on R280's causes. -/
theorem raisesIf_exec (i : Instr) (s : State) : RaisesIf s (illegalArgument (encode i) s.a = true) (exec i s) := by
  cases i
  case cmpps128 p | cmpps256 p | cmppd128 p | cmppd256 p | cmpss p | cmpsd p =>
    rw [illegalArgument_of_predicate rfl]
    exact raisesIf_comparing p s _
  case vcvtps2ph128 sel | vcvtps2ph256 sel =>
    rw [illegalArgument_of_rounding rfl]
    exact raisesIf_converting sel s _
  case setcsr =>
    rw [illegalArgument_setcsr]
    exact raisesIf_setcsr s
  all_goals exact raisesIf_complete s (not_illegalArgument_of_mustBeZero rfl (by decide) s.a) _

/-- What the port does, by R280's causes in their order. -/
theorem executePort_causes (s : State) :
    (reservedWord s.cmd = true ∧ executePort s = .next (s.raise .reservedEncoding)) ∨
    (reservedWord s.cmd = false ∧ illegalArgument s.cmd s.a = true ∧
      executePort s = .next (s.raise .invalidArgument)) ∨
    (reservedWord s.cmd = false ∧ illegalArgument s.cmd s.a = false ∧ ∃ t, executePort s = .next t ∧ t.err = 0) := by
  obtain ⟨e, herror, h⟩ | ⟨i, hok, h⟩ := executePort_cases s
  · exact .inl ⟨(reservedWord_iff_decode_error s.cmd).mpr ⟨e, herror⟩, h⟩
  · have hword : reservedWord s.cmd = false := by
      rw [← Bool.not_eq_true, reservedWord_iff_decode_error, hok]
      simp
    have hexec := raisesIf_exec i s
    rw [decode_eq_ok_iff_encode.mp hok, ← h] at hexec
    obtain ⟨hillegal, hraise⟩ | ⟨hlegal, hcomplete⟩ := hexec
    · exact .inr (.inl ⟨hword, hillegal, hraise⟩)
    · exact .inr (.inr ⟨hword, Bool.eq_false_of_not_eq_true hlegal, hcomplete⟩)

/-! ### What an error leaves behind (R281) -/

/-- A command that ends in an error leaves CSR as it found it. -/
theorem commandResult_csr_of_err_ne_zero {s : State} {c : Command} (h : (commandResult s c).err ≠ 0) :
    (commandResult s c).csr = s.csr := by
  obtain ⟨-, hport⟩ | ⟨-, -, hport⟩ | ⟨-, -, t, hport, hzero⟩ := executePort_causes (s.present c)
  · rw [commandResult_of_executePort hport, State.raise_csr, State.present_csr]
  · rw [commandResult_of_executePort hport, State.raise_csr, State.present_csr]
  · rw [commandResult_of_executePort hport] at h
    exact absurd hzero h

/-! ### Steps and runs go through (R284) -/

theorem State.ready (s : State) : s.Ready := by
  obtain h | ⟨k, ks, c, cs, -, -, h⟩ := step_cases s
  · exact ⟨_, h⟩
  · exact ⟨_, h.trans (executePort_present _ c)⟩

theorem exists_runSteps_eq_next (n : Nat) (s : State) : ∃ t, runSteps n s = .next t := by
  induction n generalizing s with
  | zero => exact ⟨s, rfl⟩
  | succ n ih =>
    obtain ⟨t, h⟩ := s.ready
    rw [runSteps_succ_of_next h]
    exact ih t

end Sys2Proof.Machine

namespace Sys2Proof.Proofs

/-- Settles O45, by R280's causes in their order; an error outcome drives R with 0 and touches nothing else. -/
theorem errorCodeFollowsItsCauses : Obligations.ErrorCodeFollowsItsCauses := by
  intro s
  obtain ⟨hword, h⟩ | ⟨hword, harg, h⟩ | ⟨hword, harg, t, h, herr⟩ := executePort_causes s
  · exact ⟨_, h, by simp [hword], fun _ => ⟨rfl, rfl⟩, ErrorKind.reservedEncoding.code_ne_three⟩
  · exact ⟨_, h, by simp [hword, harg], fun _ => ⟨rfl, rfl⟩, ErrorKind.invalidArgument.code_ne_three⟩
  · exact ⟨t, h, by simp [hword, harg, herr], fun hne => absurd herr hne, by rw [herr]; decide⟩

/-- Settles O46: a step takes a turn, and the port answers every command; a run is so many steps. -/
theorem everyStepIsReady : Obligations.EveryStepIsReady :=
  fun s => ⟨s.ready, fun n => exists_runSteps_eq_next n s⟩

/-- Settles O51: the next command's answer depends on CSR, the requesters and the schedule alone, and the error left all three. -/
theorem errorsLeaveNoTrace : Obligations.ErrorsLeaveNoTrace := by
  intro s c d herr
  exact commandResult_congr d (commandResult_csr_of_err_ne_zero herr) (commandResult_requesters s c)
    (commandResult_schedule s c)

end Sys2Proof.Proofs
end

section
/-! PROOFS of the statement about turns without a command (O44): with nothing to issue, a step takes at most its turn. -/

open Sys2Proof Sys2Proof.Machine Sys2Proof.Claims

namespace Sys2Proof.Machine

theorem step_of_schedule_nil {s : State} (hsched : s.schedule = []) : step s = .next s := by
  obtain h | ⟨k, ks, c, cs, hcons, -, -⟩ := step_cases s
  · have hkept : { s with schedule := s.schedule.tail } = s := by rw [hsched, List.tail_nil, ← hsched]
    rw [h, hkept]
  · exact absurd (hsched.symm.trans hcons) (List.cons_ne_nil k ks).symm

/-- A turn of a requester with no command to issue is taken, and nothing else happens. -/
theorem step_of_idle {s : State} {k : Nat} {ks : List Nat} (hsched : s.schedule = k :: ks)
    (hqueue : s.requesters[k]? = none ∨ s.requesters[k]? = some []) : step s = .next { s with schedule := ks } := by
  have hinput : s = s.withInput s.requesters (k :: ks) := by rw [← hsched]; rfl
  calc step s = step (s.withInput s.requesters (k :: ks)) := congrArg step hinput
    _ = .next (s.withInput s.requesters ks) := step_withInput_of_idle hqueue ks

end Sys2Proof.Machine

namespace Sys2Proof.Proofs

/-- Settles O44: without a turn a step is idle in place, and an absent requester is as idle as one with an empty list. -/
theorem turnWithoutCommandIssuesNothing : Obligations.TurnWithoutCommandIssuesNothing :=
  ⟨fun _ => step_of_schedule_nil, fun _ _ _ hsched habsent => step_of_idle hsched (.inl habsent),
    fun _ _ _ hsched hempty => step_of_idle hsched (.inr hempty)⟩

end Sys2Proof.Proofs
end
